-- ==== Sys2Proof/Word.lean ====
section
/-! DEFINITION. The two widths of the engine (00_scope.md R8): a byte and a 16-bit word.
Everything that could be read wrong (halves, trailer order) is in Machine/Bits.lean. -/

namespace Sys2Proof

/-- A byte (R8). -/
abbrev Byte := BitVec 8

/-- The width of the accumulator and of a table entry (R8). -/
abbrev Word := BitVec 16

end Sys2Proof
end

