-- ==== Sys2Proof/Machine/Bits.lean ====
section
/-! DEFINITION. The halves of a 16-bit value and their composition (00_scope.md R12, R13). -/

namespace Sys2Proof.Machine

/-- `lo8(v) = v[7:0]` (R13). -/
def lo8 (v : Word) : Byte := v.setWidth 8

/-- `hi8(v) = v[15:8]` (R13). -/
def hi8 (v : Word) : Byte := (v >>> 8).setWidth 8

/-- `mk16(lo, hi) = zext_16(lo) ^ (zext_16(hi) << 8)` (R13). -/
def mk16 (lo hi : Byte) : Word := lo.setWidth 16 ^^^ (hi.setWidth 16 <<< 8)

end Sys2Proof.Machine
end

