-- ==== Sys2Proof/Machine/Constants.lean ====
section
/-! DEFINITION. The fixed constants of the engine (00_scope.md R7) and the limits that follow from the
one-byte length (R8). -/

namespace Sys2Proof.Machine

/-- `ACC_INIT`, "starting accumulator 0" (R7). -/
def accInit : Word := 0x0000

/-- `MSGTYPE_TX`, byte 0 of every envelope sent (R7, R68). -/
def msgTypeTx : Byte := 0x05

/-- The two message types accepted on reception (R7, R68); the spec does not pair them with meanings. -/
def msgTypeRxA : Byte := 0x03

/-- See `msgTypeRxA`. -/
def msgTypeRxB : Byte := 0x07

/-- `MSGTYPE_RX` as a test on byte 0 of a received envelope (R7, R68). -/
def acceptsMsgType (t : Byte) : Bool := t == msgTypeRxA || t == msgTypeRxB

/-- `SEV_ERROR_OPCODE` (R7, R69). -/
def sevErrorOpcode : Byte := 0x88

/-- `SEV_WARNING_OPCODE` (R7, R69). -/
def sevWarningOpcode : Byte := 0x89

/-- `SEV_INFO_OPCODE` (R7, R69). -/
def sevInfoOpcode : Byte := 0x8A

/-- `ERROR_FRAME_LENGTH`, the length byte of a device error, warning or info frame (R7). -/
def errorFrameLength : Byte := 2

/-- `HEADER_BYTES` (R7). -/
def headerBytes : Nat := 3

/-- `TRAILER_BYTES` (R7). -/
def trailerBytes : Nat := 2

/-- `MAX_PAYLOAD` (R8). -/
def maxPayload : Nat := 254

/-- `MAX_FRAME` (R8). -/
def maxFrame : Nat := 256

end Sys2Proof.Machine
end

