-- ==== Sys2Proof/Syntax.lean ====
section
/-! DEFINITION. The syntax of the model: one constructor per row of spec/opcode_table.json, and the
requests by which the host names them. The seven rows of format OP are the engine's operations
(30_encoding.md R71); the rows of the formats ENV.msgType and FRAME.opcode are values that an envelope or
a frame carries (R68, R70), and their constructors stand for the engine's own operations on an envelope or
a frame that carries that value (DESIGN CHOICE, notes/assumptions/8.md). -/

namespace Sys2Proof

/-- The two ways a frame with a given opcode passes the engine (R70). -/
inductive FrameUse where
  /-- a command is assembled: the opcode is the row's, the payload the host's (R110) -/
  | encode (payload : List Byte)
  /-- a received frame `[length, opcode] ++ payload` is taken apart against `expected` (R112) -/
  | decode (expected length : Byte) (payload : List Byte)
  deriving DecidableEq, Repr

/-- What follows the message type in an envelope on the receive stream (R63): address, length byte, frame
body, trailer. -/
structure Envelope where
  address : Byte
  length : Byte
  body : List Byte
  crcLow : Byte
  crcHigh : Byte
  deriving DecidableEq, Repr

/-- The two ways the message type 0x05 meets the engine (R68): ENV_WRAP writes it, and reception refuses it. -/
inductive HostMessageUse where
  /-- an envelope is sent around `frame` (R130) -/
  | wrap (frame : List Byte)
  /-- an envelope with this message type arrives and is unwrapped (R132) -/
  | receive (e : Envelope)
  deriving DecidableEq, Repr

/-- One constructor per row of spec/opcode_table.json. -/
inductive Instr where
  -- format OP (R71)
  | crcLoad (v : Word)
  | crcStep (b : Byte)
  | crcRead
  | frameEnc (opcode : Byte) (payload : List Byte)
  | frameDec (expected : Byte) (buf : List Byte)
  | envWrap (frame : List Byte)
  | envUnwrap
  -- format ENV.msgType (R68)
  | msgHostToModule (u : HostMessageUse)
  | msgModuleToHost03 (e : Envelope)
  | msgModuleToHost07 (e : Envelope)
  -- format FRAME.opcode (R70)
  | frameCfgRead (u : FrameUse)
  | frameCfgWrite (u : FrameUse)
  | frameSevError (u : FrameUse)
  | frameSevWarning (u : FrameUse)
  | frameSevInfo (u : FrameUse)
  | frameErrAck (u : FrameUse)
  | frameStop (u : FrameUse)
  | frameReference (u : FrameUse)
  | framePosReached (u : FrameUse)
  | frameStatus (u : FrameUse)
  | frameErrDetail (u : FrameUse)
  | frameTargetA0 (u : FrameUse)
  | frameTargetA1 (u : FrameUse)
  | frameTargetA2 (u : FrameUse)
  | frameTargetA3 (u : FrameUse)
  | frameTargetA4 (u : FrameUse)
  | frameMoveAbs (u : FrameUse)
  | frameMoveB1 (u : FrameUse)
  | frameMoveB8 (u : FrameUse)
  | frameMoveB9 (u : FrameUse)
  | frameReboot (u : FrameUse)
  | frameUserLevel (u : FrameUse)
  | frameCommTestE4 (u : FrameUse)
  | frameCommTestE5 (u : FrameUse)
  | frameNotifyToggle (u : FrameUse)
  deriving DecidableEq, Repr

/-- What the host presents to the engine. `op` is the operation interface of R71: the select code and the
operands of the row together (an operation reads only the operands its row names). How they travel is not
fixed by the spec (D1), so they are given as fields and not as bytes. The other four name a row of the
formats FRAME.opcode and ENV.msgType (notes/assumptions/8.md). -/
inductive Request where
  /-- an operation: `opsel`, the 16-bit operand, the byte operand, the byte-sequence operand (R71) -/
  | op (opsel : BitVec 4) (v : Word) (b : Byte) (seq : List Byte)
  /-- a command to assemble: its opcode and payload (R19 "Command") -/
  | command (opcode : Byte) (payload : List Byte)
  /-- the bytes of a response frame to take apart, and the opcode expected (R61, R26) -/
  | response (expected : Byte) (buf : List Byte)
  /-- a frame to send in an envelope with this message type (R62) -/
  | send (msgType : Byte) (frame : List Byte)
  /-- the bytes of an envelope that arrives and is unwrapped at once (R63) -/
  | receive (bytes : List Byte)
  deriving DecidableEq, Repr

/-- Why a request names no row of the table. -/
inductive DecodeError where
  /-- an `opsel` from 0x7 to 0xF (R72) -/
  | reservedOpsel (opsel : BitVec 4)
  /-- an envelope to send with another message type than 0x05 (R62) -/
  | notASentMsgType (msgType : Byte)
  /-- arriving bytes that are not one whole envelope of a listed message type (R63, R68) -/
  | notAListedEnvelope (bytes : List Byte)
  deriving DecidableEq, Repr

end Sys2Proof
end

