-- ==== Sys2Proof/Machine/State.lean ====
section
/-! DEFINITION. The state of the engine and of what it meets at its three interfaces (10_state.md R20 to R33,
92_eei_decisions.md D1), the outcomes of operations (60_exceptions.md R160 to R169), and why a step can stop. -/

namespace Sys2Proof.Machine

/-- An item of the receive stream (R29): a byte, or the `End` that stands for a read that came back short (R42). -/
inductive RxItem where
  | byte (b : Byte)
  | endOfRead
  deriving DecidableEq, Repr

/-- The severity of a device-reported event (41_frame_codec.md R114). -/
inductive Severity where
  | error
  | warning
  | info
  deriving DecidableEq, Repr

/-- The causes of `TransportError` and their info (R162). -/
inductive TransportCause where
  | shortHeader (had : Nat)
  | badAddress (address : Byte)
  | badMsgType (msgType : Byte)
  | shortBody (had wanted : Nat)
  | shortWrite (taken offered : Nat)
  deriving DecidableEq, Repr

/-- The causes of `FrameError` and their info (R164). -/
inductive FrameCause where
  | tooShort (had : Nat)
  | lengthMismatch (length : Byte) (rest : Nat)
  deriving DecidableEq, Repr

/-- The fault kinds of the engine with their info (R161). These are outcomes handed to the host; the machine
goes on after each of them (R172). -/
inductive EngineFault where
  | transportError (cause : TransportCause)
  | checksumError (computed received : Word)
  | frameError (cause : FrameCause)
  | unexpectedOpcode (expected got : Byte)
  | lengthOverflow (length : Nat)
  | illegalOperation (opsel : BitVec 4)
  deriving DecidableEq, Repr

/-- The value of an `Ok` outcome (R71, column "result in Ok"). -/
inductive Value where
  | unit
  | word (v : Word)
  | bytes (s : List Byte)
  deriving DecidableEq, Repr

/-- The outcome of an operation (00_scope.md R17, R160). -/
inductive OpOutcome where
  | ok (value : Value)
  | deviceError (severity : Severity) (code opcode : Byte)
  | fault (kind : EngineFault)
  deriving DecidableEq, Repr

/-- An operation in progress that waits for the transport (R23, R42, R43, R140). Only the two operations on the
channel can wait; phases VALIDATE and CHECK of a reception take no item, so a wait is never inside them. -/
inductive Busy where
  /-- ENV_UNWRAP in phase HEADER with the bytes taken so far -/
  | header (taken : List Byte)
  /-- ENV_UNWRAP in phase BODY: the header, and the further bytes taken so far -/
  | body (msgType address length : Byte) (taken : List Byte)
  /-- ENV_WRAP has offered this envelope and the transport has not answered -/
  | sending (envelope : List Byte)
  deriving DecidableEq, Repr

/-- What the world outside the engine does, one act at a time (notes/assumptions/6.md). Two of the acts can strike an
operation in progress between two of its accesses (`Event.strikes`). -/
inductive Event where
  /-- the host issues an operation (R71) -/
  | issue (r : Request)
  /-- the host issues an operation and reset is applied while it runs, after at most `progress` of its takes from
  RX or of its bytes put on TX (R190, U12; notes/assumptions/9.md) -/
  | resetDuring (r : Request) (progress : Nat)
  /-- reset is applied, at any time: an operation in progress has by then made at most `progress` more takes from RX, or
  put at most `progress` bytes on TX, and has not given its outcome (R190, U12; notes/assumptions/9.md) -/
  | reset (progress : Nat)
  /-- the transport appends items to RX (R29), also while the channel is not open (notes/assumptions/10.md) -/
  | arrive (items : List RxItem)
  /-- the transport answers a write: it takes up to this many bytes (R43) -/
  | writeAnswer (count : Nat)
  /-- the host opens the channel (R53); what is on RX and the unused answers stay (notes/assumptions/10.md) -/
  | openChannel
  /-- the host closes the channel (R53); what is on RX and the unused answers stay (notes/assumptions/10.md) -/
  | closeChannel
  /-- a party other than the engine removes items from the front of RX, at any time: a reception in progress has by then
  made at most `progress` more takes (R52, R194) -/
  | discard (progress count : Nat)
  /-- the host issues an operation, and after at most `progress` of its takes from RX another party removes items from
  the front (R52) -/
  | discardDuring (r : Request) (progress count : Nat)
  deriving DecidableEq, Repr

/-- The engine, the two streams, and what stands at the operation interface. -/
structure State where
  /-- `ACC` (R21) -/
  acc : Word
  /-- `TABLE` (R27), written by nothing -/
  table : Vector Word 256
  /-- `MODULE_ADDR` (R25), written by nothing -/
  moduleAddr : Byte
  /-- `RX` (R29), front first -/
  rx : List RxItem
  /-- `TX` (R29), oldest byte first -/
  tx : List Byte
  /-- the operation in progress, if one waits (R23) -/
  busy : Option Busy
  /-- the outcomes given so far, oldest first (R201); no operation reads them (R24) -/
  outcomes : List OpOutcome
  /-- whether the host holds an open channel (R53, R197) -/
  channelOpen : Bool
  /-- the transport's answers to writes, not yet used, oldest first (R43, U6) -/
  writeAnswers : List Nat
  /-- what the outside world does next, in order (R201, U7) -/
  events : List Event
  /-- the model's own: how many free values of `ACC` were drawn (R21, U3; notes/assumptions/2.md) -/
  draws : Nat
  deriving DecidableEq, Repr

/-- A stuck state: the spec gives the situation no effect. -/
inductive Fault where
  /-- A second operation is issued while one runs. Raised by every instruction and every request at a state with an
  operation in progress: 70_reset_and_hazards.md R192, "a model gives such a host no step"; U4 `stuck`. Safe. -/
  | overlappingOperation
  deriving DecidableEq, Repr

/-- A use the model's admission test turns away. -/
inductive Refusal where
  /-- An instruction that has no meaning in the model yet; raised only by an arm of `exec`, and no arm raises it. Safe. -/
  | notModelled (mnemonic : String)
  /-- ENV_WRAP, ENV_UNWRAP or a row that stands for one of them with no open channel; raised by `State.onChannel`.
  R197, "outside this spec"; U5 `refuse`. Safe. -/
  | channelNotOpen
  /-- A request to send an envelope of another message type than 0x05; raised by `issue`. The request form is the
  model's own (notes/assumptions/8.md) and the engine has no operation that does this (R62, R68). Safe. -/
  | noSuchEnvelope (msgType : Byte)
  deriving DecidableEq, Repr

/-- The machine right after reset (R33): `ACC` is zero and no operation is in progress; `TABLE` and `MODULE_ADDR`
are the parameters (R31). The streams and the other fields outside the engine are not touched by a reset (R32);
the values here are those of an engine that nothing has met yet (DESIGN CHOICE, notes/assumptions/5.md). -/
def State.reset : State where
  acc := 0x0000
  table := Config.table
  moduleAddr := Config.moduleAddr
  rx := []
  tx := []
  busy := none
  outcomes := []
  channelOpen := true
  writeAnswers := []
  events := []
  draws := 0

end Sys2Proof.Machine
end

