-- ==== Sys2Proof/Machine/Ops.lean ====
section
/-! DEFINITION. The named operations over the state: the accumulator, the three access primitives of
20_memory.md, ending an operation with an outcome (which is how a fault is taken, 60_exceptions.md R172),
reset, and the two admission tests. -/

namespace Sys2Proof.Machine

/-- `ACC <- v` (R15). -/
def State.setAcc (v : Word) (s : State) : State := { s with acc := v }

/-- What is left on the receive stream. -/
def State.setRx (rx : List RxItem) (s : State) : State := { s with rx := rx }

/-- An operation waits for the transport (R42, R43). -/
def State.waitIn (b : Busy) (s : State) : State := { s with busy := some b }

/-- `ACC <- unspecified`: a fresh free value (R21, U3). -/
def State.drawAcc (s : State) : State := { s with acc := Config.freeAcc s.draws, draws := s.draws + 1 }

/-- `TableRead(i)` of a table (R41): total, no effect. -/
def tableRead (table : Vector Word 256) (i : Byte) : Word := table[i.toNat]'i.isLt

/-- An operation ends with an outcome, which the host gets (R160, R201). -/
def State.finish (o : OpOutcome) (s : State) : State := { s with busy := none, outcomes := s.outcomes ++ [o] }

/-- TAKING A FAULT (R172): the operation ends at once and the host gets `Fault(kind, info)`. Nothing is saved, no
mode changes and control goes nowhere. There is no return from it (R173): the next operation starts from this
state. -/
def State.raise (f : EngineFault) (s : State) : State := s.finish (.fault f)

/-- The end of ENV_WRAP or ENV_UNWRAP after the channel was used, whatever the outcome: `ACC` is left unspecified
(R21, R131, R133). -/
def State.finishChannel (o : OpOutcome) (s : State) : State := s.drawAcc.finish o

/-- The transport appends items at the back of `RX` (R29). -/
def State.deliver (items : List RxItem) (s : State) : State := { s with rx := s.rx ++ items }

/-- The transport appends bytes (R29). -/
def State.deliverBytes (bytes : List Byte) (s : State) : State := s.deliver (bytes.map .byte)

/-- A party other than the engine takes items from the front of `RX` (R52). -/
def State.discardFront (count : Nat) (s : State) : State := s.setRx (s.rx.drop count)

/-- A run of `RxTake()` (R42): what came of taking a number of bytes. -/
inductive Taking where
  /-- all were there; the items behind them stay -/
  | full (taken : List Byte) (rest : List RxItem)
  /-- an `End` was met and removed; the items behind it stay -/
  | short (taken : List Byte) (rest : List RxItem)
  /-- `RX` is empty and the engine waits -/
  | waiting (taken : List Byte)
  deriving DecidableEq, Repr

/-- Take `n` more bytes from the front of a receive stream, `taken` being those taken before (R42, R132). -/
def takeBytes : Nat → List Byte → List RxItem → Taking
  | 0, taken, rx => .full taken rx
  | _ + 1, taken, [] => .waiting taken
  | _ + 1, taken, .endOfRead :: rx => .short taken rx
  | n + 1, taken, .byte b :: rx => takeBytes n (taken ++ [b]) rx

/-- `TxPut(s)` when the transport has room for `room` bytes (R43): the first `min room (len s)` bytes are appended to
`TX`; the count is `txCount`. -/
def State.txPut (bytes : List Byte) (room : Nat) (s : State) : State := { s with tx := s.tx ++ bytes.take room }

/-- The count `TxPut` returns (R43): `0 <= n <= len(s)`. -/
def txCount (bytes : List Byte) (room : Nat) : Nat := min room bytes.length

/-- The effect of reset (R190, R32): `ACC` is zero and no operation is in progress; an operation that ran ends with no
outcome; what it took from `RX` and put on `TX` stays taken and sent; nothing else changes. -/
def State.applyReset (s : State) : State := { s with acc := accInit, busy := none }

/-- One operation at a time (R192, U4): with one in progress there is no step for another. -/
def State.begin (k : State → Host.Outcome State Fault Refusal) (s : State) : Host.Outcome State Fault Refusal :=
  match s.busy with
  | none => k s
  | some _ => .fault .overlappingOperation

/-- The channel must be open (R197, U5). -/
def State.onChannel (k : State → Host.Outcome State Fault Refusal) (s : State) : Host.Outcome State Fault Refusal :=
  if s.channelOpen then k s else .refused .channelNotOpen

end Sys2Proof.Machine
end

