-- ==== Sys2Proof/Machine/Checksum.lean ====
section
/-! DEFINITION. The checksum engine (40_checksum.md): `crc_step`, `checksum`, and the operations CRC_LOAD, CRC_STEP and
CRC_READ. -/

namespace Sys2Proof.Machine

/-- The index of a step (30_encoding.md R67): `lo8(acc) XOR b`. -/
def crcIndex (acc : Word) (b : Byte) : Byte := lo8 acc ^^^ b

/-- `crc_step(acc, b)` (R90). -/
def crcStep (table : Vector Word 256) (acc : Word) (b : Byte) : Word :=
  (hi8 acc).setWidth 16 ^^^ tableRead table (crcIndex acc b)

/-- `checksum_from(acc, s)` (R91). -/
def checksumFrom (table : Vector Word 256) : Word → List Byte → Word
  | acc, [] => acc
  | acc, b :: s => checksumFrom table (crcStep table acc b) s

/-- `checksum(s)` (R91): the recurrence started at 0x0000. -/
def checksum (table : Vector Word 256) (s : List Byte) : Word := checksumFrom table accInit s

/-- CRC_LOAD (R92). -/
def execCrcLoad (v : Word) (s : State) : Host.Outcome State Fault Refusal :=
  s.begin fun s => .next ((s.setAcc v).finish (.ok .unit))

/-- CRC_STEP (R93). -/
def execCrcStep (b : Byte) (s : State) : Host.Outcome State Fault Refusal :=
  s.begin fun s => .next ((s.setAcc (crcStep s.table s.acc b)).finish (.ok .unit))

/-- CRC_READ (R94). -/
def execCrcRead (s : State) : Host.Outcome State Fault Refusal :=
  s.begin fun s => .next (s.finish (.ok (.word s.acc)))

end Sys2Proof.Machine
end

