-- ==== Sys2Proof/Machine/Flags.lean ====
section
/-! DEFINITION. The engine has no flags and no condition codes (10_state.md R24): what an operation found is in its
outcome. Here is what is computed for an outcome: the severity (41_frame_codec.md R114), and the numbers of fault
kinds and sub-causes (60_exceptions.md R161, R162, R164). -/

namespace Sys2Proof.Machine

/-- `severity_of(opcode)` (R114): ERROR for every value but the two named. -/
def severityOf (opcode : Byte) : Severity :=
  if opcode = sevErrorOpcode then .error
  else if opcode = sevWarningOpcode then .warning
  else if opcode = sevInfoOpcode then .info
  else .error

/-- The number of a fault kind (R161). -/
def faultNumber : EngineFault → Nat
  | .transportError _ => 0x1
  | .checksumError _ _ => 0x2
  | .frameError _ => 0x3
  | .unexpectedOpcode _ _ => 0x4
  | .lengthOverflow _ => 0x5
  | .illegalOperation _ => 0x6

/-- The number of an outcome: 0x0 when it is no fault (R161, first row). -/
def outcomeNumber : OpOutcome → Nat
  | .ok _ => 0x0
  | .deviceError _ _ _ => 0x0
  | .fault f => faultNumber f

/-- The sub-cause number of a `TransportError` (R162). -/
def transportCauseNumber : TransportCause → Nat
  | .shortHeader _ => 0x1
  | .badAddress _ => 0x2
  | .badMsgType _ => 0x3
  | .shortBody _ _ => 0x4
  | .shortWrite _ _ => 0x5

/-- The sub-cause number of a `FrameError` (R164). -/
def frameCauseNumber : FrameCause → Nat
  | .tooShort _ => 0x1
  | .lengthMismatch _ _ => 0x2

end Sys2Proof.Machine
end

