-- ==== Sys2Proof/Machine/Codec.lean ====
section
/-! DEFINITION. The frame codec (41_frame_codec.md): `frame_encode`, `frame_decode`, and the operations FRAME_ENC and
FRAME_DEC. -/

namespace Sys2Proof.Machine

/-- `frame_encode(opcode, payload)` (R110); it is used for payloads of at most 254 bytes only (R65). -/
def frameEncode (opcode : Byte) (payload : List Byte) : List Byte :=
  BitVec.ofNat 8 (1 + payload.length) :: opcode :: payload

/-- The outcome of FRAME_ENC (R111). -/
def frameEncOutcome (opcode : Byte) (payload : List Byte) : OpOutcome :=
  if payload.length > maxPayload then .fault (.lengthOverflow payload.length)
  else .ok (.bytes (frameEncode opcode payload))

/-- `frame_decode(expected, buf)` (R112): the five tests in order. -/
def frameDecode (expected : Byte) : List Byte → OpOutcome
  | length :: opcode :: rest =>
    if length.toNat ≠ 1 + rest.length then .fault (.frameError (.lengthMismatch length rest.length))
    else if length = errorFrameLength then .deviceError (severityOf opcode) (rest.getD 0 0) opcode
    else if opcode ≠ expected then .fault (.unexpectedOpcode expected opcode)
    else .ok (.bytes rest)
  | buf => .fault (.frameError (.tooShort buf.length))

/-- FRAME_ENC for any way of naming the opcode (R111): no state is read or written. -/
def doFrameEnc (opcode : Byte) (payload : List Byte) (s : State) : Host.Outcome State Fault Refusal :=
  s.begin fun s => .next (s.finish (frameEncOutcome opcode payload))

/-- FRAME_DEC for any way of naming the buffer (R113): no state is read or written. -/
def doFrameDec (expected : Byte) (buf : List Byte) (s : State) : Host.Outcome State Fault Refusal :=
  s.begin fun s => .next (s.finish (frameDecode expected buf))

/-- FRAME_ENC (R111). -/
def execFrameEnc (opcode : Byte) (payload : List Byte) (s : State) : Host.Outcome State Fault Refusal :=
  doFrameEnc opcode payload s

/-- FRAME_DEC (R113). -/
def execFrameDec (expected : Byte) (buf : List Byte) (s : State) : Host.Outcome State Fault Refusal :=
  doFrameDec expected buf s

end Sys2Proof.Machine
end

