-- ==== Sys2Proof/Machine/Framer.lean ====
section
/-! DEFINITION. The transport framer (42_transport_framer.md): `env_wrap`, `env_unwrap` in its four phases, the
operations ENV_WRAP and ENV_UNWRAP, and how one that waits for the transport goes on. -/

namespace Sys2Proof.Machine

/-- The trailer of a checksum: low byte first (30_encoding.md R64). -/
def trailer (c : Word) : List Byte := [lo8 c, hi8 c]

/-- `env_wrap(frame)` (R130). -/
def envWrap (table : Vector Word 256) (moduleAddr : Byte) (frame : List Byte) : List Byte :=
  msgTypeTx :: moduleAddr :: frame ++ trailer (checksum table (msgTypeTx :: moduleAddr :: frame))

/-- The transport has answered the one offer of ENV_WRAP (R131): what it took is on `TX`, and less than all of it is a
`ShortWrite`. -/
def wrapAnswered (envelope : List Byte) (room : Nat) (s : State) : State :=
  (s.txPut envelope room).finishChannel
    (if txCount envelope room < envelope.length
      then .fault (.transportError (.shortWrite (txCount envelope room) envelope.length))
      else .ok .unit)

/-- ENV_WRAP offers the envelope and, if the transport's answer is not there, waits for it (R43, R131). -/
def wrapOffer (envelope : List Byte) (s : State) : State :=
  match s.writeAnswers with
  | [] => s.waitIn (.sending envelope)
  | room :: later => wrapAnswered envelope room { s with writeAnswers := later }

/-- Phase CHECK (R132): `d` is the body and the two trailer bytes. -/
def unwrapCheck (msgType address length : Byte) (d : List Byte) (s : State) : State :=
  let body := d.take length.toNat
  let computed := checksum s.table (msgType :: address :: length :: body)
  let received := mk16 (d.getD length.toNat 0) (d.getD (length.toNat + 1) 0)
  if computed ≠ received then s.finishChannel (.fault (.checksumError computed received))
  else s.finishChannel (.ok (.bytes (length :: body)))

/-- Phase BODY (R132), `taken` being the bytes of it taken before: `length + 2` bytes in all, then phase CHECK. -/
def unwrapBody (msgType address length : Byte) (taken : List Byte) (s : State) : State :=
  match takeBytes (length.toNat + trailerBytes - taken.length) taken s.rx with
  | .full d rest => unwrapCheck msgType address length d (s.setRx rest)
  | .short d rest =>
    (s.setRx rest).finishChannel (.fault (.transportError (.shortBody d.length (length.toNat + trailerBytes))))
  | .waiting d => (s.setRx []).waitIn (.body msgType address length d)

/-- Phase VALIDATE (R132, R134): the address first; no item is taken. -/
def unwrapValidate (msgType address length : Byte) (s : State) : State :=
  if address ≠ s.moduleAddr then s.finishChannel (.fault (.transportError (.badAddress address)))
  else if !acceptsMsgType msgType then s.finishChannel (.fault (.transportError (.badMsgType msgType)))
  else unwrapBody msgType address length [] s

/-- Phase HEADER (R132), `taken` being the bytes of it taken before: three bytes, then phase VALIDATE. -/
def unwrapHeader (taken : List Byte) (s : State) : State :=
  match takeBytes (headerBytes - taken.length) taken s.rx with
  | .full h rest => unwrapValidate (h.getD 0 0) (h.getD 1 0) (h.getD 2 0) (s.setRx rest)
  | .short h rest => (s.setRx rest).finishChannel (.fault (.transportError (.shortHeader h.length)))
  | .waiting h => (s.setRx []).waitIn (.header h)

/-- ENV_WRAP for any way of naming the frame (R131): the length test comes before anything is computed. -/
def doEnvWrap (frame : List Byte) (s : State) : Host.Outcome State Fault Refusal :=
  s.begin <| State.onChannel fun s => .next <|
    if frame.length > maxFrame then s.raise (.lengthOverflow frame.length)
    else wrapOffer (envWrap s.table s.moduleAddr frame) s

/-- ENV_UNWRAP when the transport has just appended `arriving` (R133); the plain operation has nothing arriving. -/
def doEnvUnwrap (arriving : List Byte) (s : State) : Host.Outcome State Fault Refusal :=
  s.begin <| State.onChannel fun s => .next (unwrapHeader [] (s.deliverBytes arriving))

/-- ENV_WRAP (R131). -/
def execEnvWrap (frame : List Byte) (s : State) : Host.Outcome State Fault Refusal :=
  doEnvWrap frame s

/-- ENV_UNWRAP (R133). -/
def execEnvUnwrap (s : State) : Host.Outcome State Fault Refusal :=
  doEnvUnwrap [] s

/-- Whether what a waiting operation waits for is there (R42, R43). -/
def canProceed (b : Busy) (s : State) : Bool :=
  match b with
  | .header _ | .body _ _ _ _ => !s.rx.isEmpty
  | .sending _ => !s.writeAnswers.isEmpty

/-- A waiting operation goes on from where it stands (R42, R140). -/
def proceed (b : Busy) (s : State) : State :=
  match b with
  | .header taken => unwrapHeader taken s
  | .body msgType address length taken => unwrapBody msgType address length taken s
  | .sending envelope => wrapOffer envelope s

/-- Whether an operation in progress takes from `RX`. -/
def receives : Busy → Bool
  | .header _ | .body _ _ _ _ => true
  | .sending _ => false

/-- A reception in progress makes at most `n` more takes, those of the items that are there, and gives its outcome only if
it ends with them (R46, R52). With no open channel it makes none (notes/assumptions/10.md). -/
def State.runFor (n : Nat) (s : State) : State :=
  match s.busy with
  | none => s
  | some b =>
    if receives b && s.channelOpen && canProceed b (s.setRx (s.rx.take n)) then
      (proceed b (s.setRx (s.rx.take n))).deliver (s.rx.drop n)
    else s

/-- What a reception in phase `b` has removed from `RX` when reset ends it after at most `n` more takes: a first part of
what it would remove (R190, U12, R135). With all of it removed, it has still given no outcome. -/
def State.takeBefore (b : Busy) (n : Nat) (s : State) : State :=
  s.setRx (s.rx.drop (min n (s.rx.length - (proceed b s).rx.length)))

/-- What ENV_WRAP has put on `TX` when reset ends it after at most `n` put bytes: a first part of what the transport takes,
or, with its answer not there, of the envelope (R190, U12). -/
def State.putBefore (envelope : List Byte) (n : Nat) (s : State) : State :=
  match s.writeAnswers with
  | [] => s.txPut envelope n
  | room :: later => ({ s with writeAnswers := later }).txPut (envelope.take room) n

end Sys2Proof.Machine
end

