-- ==== Sys2Proof/WellFormed.lean ====
section
/-! DEFINITION. The checks on an instruction as syntax. Only what cannot exist as a layout is ill-formed: a
frame row whose length byte does not count what follows it (30_encoding.md R61), and an envelope row whose
body has not `length` bytes (R63, R66). Operands the spec gives an effect to (a payload that is too long, a
malformed buffer of FRAME_DEC) are well-formed: their meaning answers with the fault the spec names. -/

namespace Sys2Proof

/-- A frame taken apart as a row satisfies the invariant of R61. -/
def FrameUse.wf : FrameUse → Bool
  | .encode _ => true
  | .decode _ length payload => length.toNat == 1 + payload.length

/-- An envelope has `length` body bytes (R63). -/
def Envelope.wf (e : Envelope) : Bool := e.body.length == e.length.toNat

/-- Both uses of message type 0x05. -/
def HostMessageUse.wf : HostMessageUse → Bool
  | .wrap _ => true
  | .receive e => e.wf

/-- An instruction is well-formed when its frame or envelope, if it has one, is laid out as the spec says. -/
def Instr.wf : Instr → Bool
  | .crcLoad _ | .crcStep _ | .crcRead | .frameEnc _ _ | .frameDec _ _ | .envWrap _ | .envUnwrap => true
  | .msgHostToModule u => u.wf
  | .msgModuleToHost03 e | .msgModuleToHost07 e => e.wf
  | .frameCfgRead u | .frameCfgWrite u | .frameSevError u | .frameSevWarning u | .frameSevInfo u
  | .frameErrAck u | .frameStop u | .frameReference u | .framePosReached u | .frameStatus u
  | .frameErrDetail u | .frameTargetA0 u | .frameTargetA1 u | .frameTargetA2 u | .frameTargetA3 u
  | .frameTargetA4 u | .frameMoveAbs u | .frameMoveB1 u | .frameMoveB8 u | .frameMoveB9 u
  | .frameReboot u | .frameUserLevel u | .frameCommTestE4 u | .frameCommTestE5 u | .frameNotifyToggle u => u.wf

end Sys2Proof
end

