-- ==== Sys2Proof/Decode.lean ====
section
/-! DEFINITION. From a request to an instruction and back (30_encoding.md R61 to R63, R68, R70 to R72). Total;
a request that names no row is rejected by name. The encoder follows the decoder in the same file. -/

namespace Sys2Proof

/-- The FRAME.opcode rows: the value of byte 1 of the frame and the constructor (R70). -/
def frameRows : List (Byte × (FrameUse → Instr)) := [
  (0x80, .frameCfgRead), (0x81, .frameCfgWrite),
  (0x88, .frameSevError), (0x89, .frameSevWarning), (0x8A, .frameSevInfo),
  (0x8B, .frameErrAck), (0x91, .frameStop), (0x92, .frameReference),
  (0x94, .framePosReached), (0x95, .frameStatus), (0x96, .frameErrDetail),
  (0xA0, .frameTargetA0), (0xA1, .frameTargetA1), (0xA2, .frameTargetA2),
  (0xA3, .frameTargetA3), (0xA4, .frameTargetA4),
  (0xB0, .frameMoveAbs), (0xB1, .frameMoveB1), (0xB8, .frameMoveB8), (0xB9, .frameMoveB9),
  (0xE0, .frameReboot), (0xE3, .frameUserLevel),
  (0xE4, .frameCommTestE4), (0xE5, .frameCommTestE5), (0xE7, .frameNotifyToggle)]

/-- The row of an opcode value, where the source lists one. -/
def frameRow (opcode : Byte) : Option (FrameUse → Instr) := frameRows.lookup opcode

/-- The ENV.msgType row of a received message type (R68). -/
def envelopeRow (msgType : Byte) : Option (Envelope → Instr) :=
  if msgType = Machine.msgTypeTx then some fun e => .msgHostToModule (.receive e)
  else if msgType = Machine.msgTypeRxA then some .msgModuleToHost03
  else if msgType = Machine.msgTypeRxB then some .msgModuleToHost07
  else none

/-- The bytes of a frame (R61). -/
def frameLayout (length opcode : Byte) (payload : List Byte) : List Byte := length :: opcode :: payload

/-- The bytes of an envelope (R62, R63). -/
def envelopeLayout (msgType : Byte) (e : Envelope) : List Byte :=
  msgType :: e.address :: e.length :: (e.body ++ [e.crcLow, e.crcHigh])

/-- The seven operations by their select code, each with the operands its row names (R71, R72). -/
def decodeOp (opsel : BitVec 4) (v : Word) (b : Byte) (seq : List Byte) : Except DecodeError Instr :=
  match opsel.toNat with
  | 0x0 => .ok (.crcLoad v)
  | 0x1 => .ok (.crcStep b)
  | 0x2 => .ok .crcRead
  | 0x3 => .ok (.frameEnc b seq)
  | 0x4 => .ok (.frameDec b seq)
  | 0x5 => .ok (.envWrap seq)
  | 0x6 => .ok .envUnwrap
  | _ => .error (.reservedOpsel opsel)

/-- A command whose opcode the source lists is that row; any other is FRAME_ENC, since the engine has no list
of known opcodes and refuses none (R70). -/
def decodeCommand (opcode : Byte) (payload : List Byte) : Instr :=
  match frameRow opcode with
  | some row => row (.encode payload)
  | none => .frameEnc opcode payload

/-- A response frame (R61) whose opcode the source lists is that row; any other buffer is FRAME_DEC (R70, R113). -/
def decodeResponse (expected : Byte) : List Byte → Instr
  | length :: opcode :: payload =>
    match frameRow opcode with
    | some row =>
      if length.toNat = 1 + payload.length then row (.decode expected length payload)
      else .frameDec expected (length :: opcode :: payload)
    | none => .frameDec expected (length :: opcode :: payload)
  | buf => .frameDec expected buf

/-- An envelope as it arrives (R63): three header bytes, `length` body bytes, two trailer bytes. -/
def decodeEnvelope : List Byte → Except DecodeError Instr
  | msgType :: address :: length :: rest =>
    match envelopeRow msgType with
    | some row =>
      if rest.length = length.toNat + Machine.trailerBytes then
        .ok (row ⟨address, length, rest.take length.toNat, rest.getD length.toNat 0, rest.getD (length.toNat + 1) 0⟩)
      else .error (.notAListedEnvelope (msgType :: address :: length :: rest))
    | none => .error (.notAListedEnvelope (msgType :: address :: length :: rest))
  | bytes => .error (.notAListedEnvelope bytes)

/-- The instruction a request names. -/
def decode : Request → Except DecodeError Instr
  | .op opsel v b seq => decodeOp opsel v b seq
  | .command opcode payload => .ok (decodeCommand opcode payload)
  | .response expected buf => .ok (decodeResponse expected buf)
  | .send msgType frame =>
    if msgType = Machine.msgTypeTx then .ok (.msgHostToModule (.wrap frame)) else .error (.notASentMsgType msgType)
  | .receive bytes => decodeEnvelope bytes

/-- The request for a frame row. -/
def encodeFrameUse (opcode : Byte) : FrameUse → Request
  | .encode payload => .command opcode payload
  | .decode expected length payload => .response expected (frameLayout length opcode payload)

/-- The request that names an instruction, from the tables of R68, R70 and R71; an operand a row does not have
is zero or empty. -/
def encode : Instr → Request
  | .crcLoad v => .op 0x0 v 0 []
  | .crcStep b => .op 0x1 0 b []
  | .crcRead => .op 0x2 0 0 []
  | .frameEnc opcode payload => .op 0x3 0 opcode payload
  | .frameDec expected buf => .op 0x4 0 expected buf
  | .envWrap frame => .op 0x5 0 0 frame
  | .envUnwrap => .op 0x6 0 0 []
  | .msgHostToModule (.wrap frame) => .send 0x05 frame
  | .msgHostToModule (.receive e) => .receive (envelopeLayout 0x05 e)
  | .msgModuleToHost03 e => .receive (envelopeLayout 0x03 e)
  | .msgModuleToHost07 e => .receive (envelopeLayout 0x07 e)
  | .frameCfgRead u => encodeFrameUse 0x80 u
  | .frameCfgWrite u => encodeFrameUse 0x81 u
  | .frameSevError u => encodeFrameUse 0x88 u
  | .frameSevWarning u => encodeFrameUse 0x89 u
  | .frameSevInfo u => encodeFrameUse 0x8A u
  | .frameErrAck u => encodeFrameUse 0x8B u
  | .frameStop u => encodeFrameUse 0x91 u
  | .frameReference u => encodeFrameUse 0x92 u
  | .framePosReached u => encodeFrameUse 0x94 u
  | .frameStatus u => encodeFrameUse 0x95 u
  | .frameErrDetail u => encodeFrameUse 0x96 u
  | .frameTargetA0 u => encodeFrameUse 0xA0 u
  | .frameTargetA1 u => encodeFrameUse 0xA1 u
  | .frameTargetA2 u => encodeFrameUse 0xA2 u
  | .frameTargetA3 u => encodeFrameUse 0xA3 u
  | .frameTargetA4 u => encodeFrameUse 0xA4 u
  | .frameMoveAbs u => encodeFrameUse 0xB0 u
  | .frameMoveB1 u => encodeFrameUse 0xB1 u
  | .frameMoveB8 u => encodeFrameUse 0xB8 u
  | .frameMoveB9 u => encodeFrameUse 0xB9 u
  | .frameReboot u => encodeFrameUse 0xE0 u
  | .frameUserLevel u => encodeFrameUse 0xE3 u
  | .frameCommTestE4 u => encodeFrameUse 0xE4 u
  | .frameCommTestE5 u => encodeFrameUse 0xE5 u
  | .frameNotifyToggle u => encodeFrameUse 0xE7 u

/-- The request for a word of spec/opcode_table.json, every operand zero or empty. The table's three formats
share one number space and no bit tells them apart: 0x3 and 0x5 are each an `opsel` and a message type, and
are read as the `opsel`; 0x7 is read as the message type, since that `opsel` is reserved (DESIGN CHOICE,
notes/assumptions/8.md). -/
def requestOfTableWord (nbits w : Nat) : Option Request :=
  if 2 ^ nbits ≤ w then none
  else if nbits ≤ 4 ∨ (w < 16 ∧ w ≠ 7) then some (.op (BitVec.ofNat 4 w) 0 0 [])
  else if w = 7 then some (.receive (envelopeLayout 0x07 ⟨0, 0, [], 0, 0⟩))
  else if w < 256 then some (.command (BitVec.ofNat 8 w) [])
  else none

/-- The instruction the decoder reads from a word of the opcode table. -/
def decodeTableWord (nbits w : Nat) : Option Instr :=
  match requestOfTableWord nbits w with
  | some r => (decode r).toOption
  | none => none

end Sys2Proof
end

