-- ==== Sys2Proof/Machine/Operands.lean ====
section
/-! DEFINITION. The operand forms of the rows that are values and not operations (30_encoding.md R68, R70): how a frame
row and an envelope row are carried out by the engine's own operations (notes/assumptions/8.md), and which
instructions use the channel (20_memory.md R40, R49). -/

namespace Sys2Proof.Machine

/-- A frame whose opcode byte has a listed value (R70): assembled as FRAME_ENC does (R111), or taken apart as FRAME_DEC
does (R113). The value itself adds nothing. -/
def doFrameRow (opcode : Byte) (u : FrameUse) (s : State) : Host.Outcome State Fault Refusal :=
  match u with
  | .encode payload => doFrameEnc opcode payload s
  | .decode expected length payload => doFrameDec expected (frameLayout length opcode payload) s

/-- An envelope with this message type arrives and ENV_UNWRAP takes from the front of `RX` (R29, R133). -/
def doReceiveRow (msgType : Byte) (e : Envelope) (s : State) : Host.Outcome State Fault Refusal :=
  doEnvUnwrap (envelopeLayout msgType e) s

/-- What an instruction does with the channel (R40, R49 d). -/
inductive ChannelUse where
  /-- nothing is taken from `RX` and nothing is put on `TX` -/
  | untouched
  /-- ENV_WRAP of a frame -/
  | put (frame : List Byte)
  /-- ENV_UNWRAP, the transport having appended these bytes -/
  | take (arriving : List Byte)
  deriving DecidableEq, Repr

/-- See `ChannelUse`. -/
def channelUse : Instr → ChannelUse
  | .crcLoad _ | .crcStep _ | .crcRead | .frameEnc _ _ | .frameDec _ _ => .untouched
  | .envWrap frame => .put frame
  | .envUnwrap => .take []
  | .msgHostToModule (.wrap frame) => .put frame
  | .msgHostToModule (.receive e) => .take (envelopeLayout msgTypeTx e)
  | .msgModuleToHost03 e => .take (envelopeLayout msgTypeRxA e)
  | .msgModuleToHost07 e => .take (envelopeLayout msgTypeRxB e)
  | .frameCfgRead _ | .frameCfgWrite _ | .frameSevError _ | .frameSevWarning _ | .frameSevInfo _
  | .frameErrAck _ | .frameStop _ | .frameReference _ | .framePosReached _ | .frameStatus _
  | .frameErrDetail _ | .frameTargetA0 _ | .frameTargetA1 _ | .frameTargetA2 _ | .frameTargetA3 _
  | .frameTargetA4 _ | .frameMoveAbs _ | .frameMoveB1 _ | .frameMoveB8 _ | .frameMoveB9 _
  | .frameReboot _ | .frameUserLevel _ | .frameCommTestE4 _ | .frameCommTestE5 _ | .frameNotifyToggle _ => .untouched

/-- What an operation has done to the streams when reset ends it after at most `progress` takes or put bytes (R190,
U12): a first part of what it would take from `RX` (R135), or a first part of the bytes the transport takes. -/
def partialEffect (cu : ChannelUse) (progress : Nat) (s : State) : State :=
  match cu with
  | .untouched => s
  | .put frame => if frame.length > maxFrame then s else s.putBefore (envWrap s.table s.moduleAddr frame) progress
  | .take arriving => (s.deliverBytes arriving).takeBefore (.header []) progress

end Sys2Proof.Machine
end

