-- ==== Sys2Proof/Machine/Messages.lean ====
section
/-! DEFINITION. The rows of format ENV.msgType (30_encoding.md R68): what the engine does with an envelope whose byte 0
has the row's value (notes/assumptions/8.md). -/

namespace Sys2Proof.Machine

/-- ENV.MSG_HOST_TO_MODULE, 0x05: ENV_WRAP always writes it (R62, R130), and reception refuses it (R68, R132). -/
def execMsgHostToModule (u : HostMessageUse) (s : State) : Host.Outcome State Fault Refusal :=
  match u with
  | .wrap frame => doEnvWrap frame s
  | .receive e => doReceiveRow 0x05 e s

/-- ENV.MSG_MODULE_TO_HOST_03, 0x03: ENV_UNWRAP accepts it (R68, R132). -/
def execMsgModuleToHost03 (e : Envelope) (s : State) : Host.Outcome State Fault Refusal := doReceiveRow 0x03 e s

/-- ENV.MSG_MODULE_TO_HOST_07, 0x07: ENV_UNWRAP accepts it (R68, R132). -/
def execMsgModuleToHost07 (e : Envelope) (s : State) : Host.Outcome State Fault Refusal := doReceiveRow 0x07 e s

end Sys2Proof.Machine
end

