-- ==== Sys2Proof/Machine/Opcodes.lean ====
section
/-! DEFINITION. The rows of format FRAME.opcode (30_encoding.md R70): data that byte 1 of a frame carries. The engine
attaches no behaviour to the value but the severities of R114, so each row is the frame codec on a frame with that
opcode (notes/assumptions/8.md). -/

namespace Sys2Proof.Machine

/-- FRAME.CFG_READ, 0x80 (R70). -/
def execFrameCfgRead (u : FrameUse) (s : State) : Host.Outcome State Fault Refusal := doFrameRow 0x80 u s

/-- FRAME.CFG_WRITE, 0x81 (R70). -/
def execFrameCfgWrite (u : FrameUse) (s : State) : Host.Outcome State Fault Refusal := doFrameRow 0x81 u s

/-- FRAME.SEV_ERROR, 0x88 (R70); in a frame of length byte 2 it selects severity ERROR (R114). -/
def execFrameSevError (u : FrameUse) (s : State) : Host.Outcome State Fault Refusal := doFrameRow 0x88 u s

/-- FRAME.SEV_WARNING, 0x89 (R70); in a frame of length byte 2 it selects severity WARNING (R114). -/
def execFrameSevWarning (u : FrameUse) (s : State) : Host.Outcome State Fault Refusal := doFrameRow 0x89 u s

/-- FRAME.SEV_INFO, 0x8A (R70); in a frame of length byte 2 it selects severity INFO (R114). -/
def execFrameSevInfo (u : FrameUse) (s : State) : Host.Outcome State Fault Refusal := doFrameRow 0x8A u s

/-- FRAME.ERR_ACK, 0x8B (R70). -/
def execFrameErrAck (u : FrameUse) (s : State) : Host.Outcome State Fault Refusal := doFrameRow 0x8B u s

/-- FRAME.STOP, 0x91 (R70). -/
def execFrameStop (u : FrameUse) (s : State) : Host.Outcome State Fault Refusal := doFrameRow 0x91 u s

/-- FRAME.REFERENCE, 0x92 (R70). -/
def execFrameReference (u : FrameUse) (s : State) : Host.Outcome State Fault Refusal := doFrameRow 0x92 u s

/-- FRAME.POS_REACHED, 0x94 (R70). -/
def execFramePosReached (u : FrameUse) (s : State) : Host.Outcome State Fault Refusal := doFrameRow 0x94 u s

/-- FRAME.STATUS, 0x95 (R70). -/
def execFrameStatus (u : FrameUse) (s : State) : Host.Outcome State Fault Refusal := doFrameRow 0x95 u s

/-- FRAME.ERR_DETAIL, 0x96 (R70). -/
def execFrameErrDetail (u : FrameUse) (s : State) : Host.Outcome State Fault Refusal := doFrameRow 0x96 u s

/-- FRAME.TARGET_A0, 0xA0 (R70). -/
def execFrameTargetA0 (u : FrameUse) (s : State) : Host.Outcome State Fault Refusal := doFrameRow 0xA0 u s

/-- FRAME.TARGET_A1, 0xA1 (R70). -/
def execFrameTargetA1 (u : FrameUse) (s : State) : Host.Outcome State Fault Refusal := doFrameRow 0xA1 u s

/-- FRAME.TARGET_A2, 0xA2 (R70). -/
def execFrameTargetA2 (u : FrameUse) (s : State) : Host.Outcome State Fault Refusal := doFrameRow 0xA2 u s

/-- FRAME.TARGET_A3, 0xA3 (R70). -/
def execFrameTargetA3 (u : FrameUse) (s : State) : Host.Outcome State Fault Refusal := doFrameRow 0xA3 u s

/-- FRAME.TARGET_A4, 0xA4 (R70). -/
def execFrameTargetA4 (u : FrameUse) (s : State) : Host.Outcome State Fault Refusal := doFrameRow 0xA4 u s

/-- FRAME.MOVE_ABS, 0xB0 (R70). -/
def execFrameMoveAbs (u : FrameUse) (s : State) : Host.Outcome State Fault Refusal := doFrameRow 0xB0 u s

/-- FRAME.MOVE_B1, 0xB1 (R70). -/
def execFrameMoveB1 (u : FrameUse) (s : State) : Host.Outcome State Fault Refusal := doFrameRow 0xB1 u s

/-- FRAME.MOVE_B8, 0xB8 (R70). -/
def execFrameMoveB8 (u : FrameUse) (s : State) : Host.Outcome State Fault Refusal := doFrameRow 0xB8 u s

/-- FRAME.MOVE_B9, 0xB9 (R70). -/
def execFrameMoveB9 (u : FrameUse) (s : State) : Host.Outcome State Fault Refusal := doFrameRow 0xB9 u s

/-- FRAME.REBOOT, 0xE0 (R70). -/
def execFrameReboot (u : FrameUse) (s : State) : Host.Outcome State Fault Refusal := doFrameRow 0xE0 u s

/-- FRAME.USER_LEVEL, 0xE3 (R70). -/
def execFrameUserLevel (u : FrameUse) (s : State) : Host.Outcome State Fault Refusal := doFrameRow 0xE3 u s

/-- FRAME.COMM_TEST_E4, 0xE4 (R70). -/
def execFrameCommTestE4 (u : FrameUse) (s : State) : Host.Outcome State Fault Refusal := doFrameRow 0xE4 u s

/-- FRAME.COMM_TEST_E5, 0xE5 (R70). -/
def execFrameCommTestE5 (u : FrameUse) (s : State) : Host.Outcome State Fault Refusal := doFrameRow 0xE5 u s

/-- FRAME.NOTIFY_TOGGLE, 0xE7 (R70). -/
def execFrameNotifyToggle (u : FrameUse) (s : State) : Host.Outcome State Fault Refusal := doFrameRow 0xE7 u s

end Sys2Proof.Machine
end

