-- ==== Sys2Proof/Machine/Dispatch.lean ====
section
/-! DEFINITION. One arm per row of spec/opcode_table.json. -/

namespace Sys2Proof.Machine

def exec (i : Instr) (s : State) : Host.Outcome State Fault Refusal :=
  match i with
  | .crcLoad v => Sys2Proof.Machine.execCrcLoad v s
  | .crcStep b => Sys2Proof.Machine.execCrcStep b s
  | .crcRead => Sys2Proof.Machine.execCrcRead s
  | .frameEnc opcode payload => Sys2Proof.Machine.execFrameEnc opcode payload s
  | .frameDec expected buf => Sys2Proof.Machine.execFrameDec expected buf s
  | .envWrap frame => Sys2Proof.Machine.execEnvWrap frame s
  | .envUnwrap => Sys2Proof.Machine.execEnvUnwrap s
  | .msgHostToModule u => Sys2Proof.Machine.execMsgHostToModule u s
  | .msgModuleToHost03 e => Sys2Proof.Machine.execMsgModuleToHost03 e s
  | .msgModuleToHost07 e => Sys2Proof.Machine.execMsgModuleToHost07 e s
  | .frameCfgRead u => Sys2Proof.Machine.execFrameCfgRead u s
  | .frameCfgWrite u => Sys2Proof.Machine.execFrameCfgWrite u s
  | .frameSevError u => Sys2Proof.Machine.execFrameSevError u s
  | .frameSevWarning u => Sys2Proof.Machine.execFrameSevWarning u s
  | .frameSevInfo u => Sys2Proof.Machine.execFrameSevInfo u s
  | .frameErrAck u => Sys2Proof.Machine.execFrameErrAck u s
  | .frameStop u => Sys2Proof.Machine.execFrameStop u s
  | .frameReference u => Sys2Proof.Machine.execFrameReference u s
  | .framePosReached u => Sys2Proof.Machine.execFramePosReached u s
  | .frameStatus u => Sys2Proof.Machine.execFrameStatus u s
  | .frameErrDetail u => Sys2Proof.Machine.execFrameErrDetail u s
  | .frameTargetA0 u => Sys2Proof.Machine.execFrameTargetA0 u s
  | .frameTargetA1 u => Sys2Proof.Machine.execFrameTargetA1 u s
  | .frameTargetA2 u => Sys2Proof.Machine.execFrameTargetA2 u s
  | .frameTargetA3 u => Sys2Proof.Machine.execFrameTargetA3 u s
  | .frameTargetA4 u => Sys2Proof.Machine.execFrameTargetA4 u s
  | .frameMoveAbs u => Sys2Proof.Machine.execFrameMoveAbs u s
  | .frameMoveB1 u => Sys2Proof.Machine.execFrameMoveB1 u s
  | .frameMoveB8 u => Sys2Proof.Machine.execFrameMoveB8 u s
  | .frameMoveB9 u => Sys2Proof.Machine.execFrameMoveB9 u s
  | .frameReboot u => Sys2Proof.Machine.execFrameReboot u s
  | .frameUserLevel u => Sys2Proof.Machine.execFrameUserLevel u s
  | .frameCommTestE4 u => Sys2Proof.Machine.execFrameCommTestE4 u s
  | .frameCommTestE5 u => Sys2Proof.Machine.execFrameCommTestE5 u s
  | .frameNotifyToggle u => Sys2Proof.Machine.execFrameNotifyToggle u s

end Sys2Proof.Machine
end

