-- ==== Sys2Proof/Machine/Issue.lean ====
section
/-! DEFINITION. How the engine gets its next operation and what the acts of the world outside do to the state
(70_reset_and_hazards.md R190 to R201, notes/assumptions/6.md). The engine fetches nothing from a memory (10_state.md
R23): the host issues each operation. -/

namespace Sys2Proof.Machine

/-- The host issues an operation: it is decoded and performed. A reserved `opsel` is answered by `IllegalOperation` and
changes nothing else (R72). Arriving bytes that are no listed envelope are on `RX` all the same, and ENV_UNWRAP says
what becomes of them (R73, R132). -/
def issue (r : Request) (s : State) : Host.Outcome State Fault Refusal :=
  match decode r with
  | .ok i => exec i s
  | .error (.reservedOpsel opsel) => s.begin fun s => .next (s.raise (.illegalOperation opsel))
  | .error (.notASentMsgType msgType) => s.begin fun _ => .refused (.noSuchEnvelope msgType)
  | .error (.notAListedEnvelope bytes) => doEnvUnwrap bytes s

/-- What a request does with the channel (R40), listed row or not. -/
def requestUse (r : Request) : ChannelUse :=
  match decode r with
  | .ok i => channelUse i
  | .error (.notAListedEnvelope bytes) => .take bytes
  | .error _ => .untouched

/-- The host issues an operation and reset is applied while it runs (R190, U12): a part of its takes and puts stands,
`ACC` is zero, and there is no outcome. An operation that cannot begin is treated as `issue` treats it. -/
def issueThenReset (r : Request) (progress : Nat) (s : State) : Host.Outcome State Fault Refusal :=
  match issue r s with
  | .next _ => .next (partialEffect (requestUse r) progress s).applyReset
  | .fault f => .fault f
  | .refused f => .refused f

/-- What the operation in progress has done when reset ends it (R190, U12): a reception has made at most `progress` more
takes, an ENV_WRAP has put at most `progress` bytes. With no open channel a reception makes none. -/
def State.struckAt (progress : Nat) (s : State) : State :=
  match s.busy with
  | none => s
  | some (.sending envelope) => s.putBefore envelope progress
  | some b => if s.channelOpen then s.takeBefore b progress else s

/-- The host issues an operation, and another party removes items after at most `progress` of its takes (R52). What takes
nothing is performed first: it makes no difference to it when the items go. -/
def issueThenDiscard (r : Request) (progress count : Nat) (s : State) : Host.Outcome State Fault Refusal :=
  match requestUse r with
  | .take arriving => s.begin <| State.onChannel fun s =>
      .next ((((s.deliverBytes arriving).waitIn (.header [])).runFor progress).discardFront count)
  | .untouched | .put _ =>
    match issue r s with
    | .next t => .next (t.discardFront count)
    | .fault f => .fault f
    | .refused f => .refused f

/-- One act of the world outside. Opening and closing the channel leave what is on `RX` and the transport's unused answers
as they are, and items arrive whether it is open or not: the spec is silent on this (R53); DESIGN CHOICE,
notes/assumptions/10.md. -/
def handleEvent (e : Event) (s : State) : Host.Outcome State Fault Refusal :=
  match e with
  | .issue r => issue r s
  | .resetDuring r progress => issueThenReset r progress s
  | .discardDuring r progress count => issueThenDiscard r progress count s
  | .reset progress => .next (s.struckAt progress).applyReset
  | .discard progress count => .next ((s.runFor progress).discardFront count)
  | .arrive items => .next (s.deliver items)
  | .writeAnswer count => .next { s with writeAnswers := s.writeAnswers ++ [count] }
  | .openChannel => .next { s with channelOpen := true }
  | .closeChannel => .next { s with channelOpen := false }

/-- The acts that do not wait until an operation in progress has gone as far as it can: reset may be applied at any time
(R190), and another party heeds no operation (R52). The others can wait without a difference, or are the host's, which
waits (notes/assumptions/6.md). -/
def Event.strikes : Event → Bool
  | .reset _ | .discard _ _ => true
  | .issue _ | .resetDuring _ _ | .discardDuring _ _ _ | .arrive _ | .writeAnswer _ | .openChannel | .closeChannel => false

/-- The next act outside strikes the operation in progress where it stands. -/
def State.struck (s : State) : Bool :=
  match s.events with
  | [] => false
  | e :: _ => e.strikes

/-- The next act outside, if there is one; else nothing happens: an idle engine keeps its state (R177) and one that
waits goes on waiting (R42, R195). -/
def nextEvent (s : State) : Host.Outcome State Fault Refusal :=
  match s.events with
  | [] => .next s
  | e :: later => handleEvent e { s with events := later }

/-- One step: an operation in progress goes on as soon as what it waits for is there, unless the next act outside strikes
it; else the world outside acts. -/
def advance (s : State) : Host.Outcome State Fault Refusal :=
  match s.busy with
  | none => nextEvent s
  | some b => if canProceed b s && !s.struck then s.onChannel fun s => .next (proceed b s) else nextEvent s

end Sys2Proof.Machine
end

