-- ==== Sys2Proof/Machine/Step.lean ====
section
/-! DEFINITION. The step of the machine, and where it finds its next instruction. -/

namespace Sys2Proof.Machine

/-- One step of the engine in its surroundings. -/
def step (s : State) : Host.Outcome State Fault Refusal := advance s

/-- The host is about to issue the instruction of a word of the opcode table, and no operation is in progress
(notes/assumptions/7.md): the very next step performs it. -/
def State.withFetchWord (s : State) (nbits w : Nat) : State :=
  match requestOfTableWord nbits w with
  | some r => { s with busy := none, events := .issue r :: s.events }
  | none => s

end Sys2Proof.Machine
end

