-- ==== Sys2Proof/Machine/Pseudo.lean ====
section
/-! DEFINITION. The four pseudo-operations (30_encoding.md R74): sequences of operations that the host issues. They are
the host's, so no request names them; here they are run one operation after the other. -/

namespace Sys2Proof.Machine

/-- Operations issued one after the other, each expected to give its outcome at once (R192, R201): behind one that waits there
is no step. -/
def execSeq : List Instr → State → Host.Outcome State Fault Refusal
  | [], s => .next s
  | i :: later, s =>
    match exec i s with
    | .next t => execSeq later t
    | .fault f => .fault f
    | .refused r => .refused r

/-- `CRC_INIT` (40_checksum.md R95). -/
def crcInit : List Instr := [.crcLoad accInit]

/-- `CHECKSUM [b0 ... bn-1]` (R96). -/
def checksumOps (bytes : List Byte) : List Instr := crcInit ++ bytes.map .crcStep ++ [.crcRead]

/-- The outcome given last. -/
def State.lastOutcome (s : State) : Option OpOutcome := s.outcomes.getLast?

/-- The second half of TX_CMD and RX_RSP: the next operation on the bytes of an `Ok`; after any other outcome it is not
issued and that outcome stands; and with no outcome given (the operation waits, or reset ended it) there is nothing to
issue yet (R137, R138). `given` is how many outcomes there were before the first half. -/
def afterOkBytes (k : List Byte → Instr) (given : Nat) (s : State) : Host.Outcome State Fault Refusal :=
  match s.outcomes[given]? with
  | some (.ok (.bytes f)) => exec (k f) s
  | _ => .next s

/-- The host waits for the operation in progress, watching at most `patience` steps. -/
def settle : Nat → State → Host.Outcome State Fault Refusal
  | 0, s => .next s
  | patience + 1, s =>
    if s.busy.isNone then .next s
    else
      match step s with
      | .next t => settle patience t
      | .fault f => .fault f
      | .refused r => .refused r

/-- `TX_CMD opcode, payload` (42_transport_framer.md R137). -/
def txCmd (opcode : Byte) (payload : List Byte) (s : State) : Host.Outcome State Fault Refusal :=
  match exec (.frameEnc opcode payload) s with
  | .next t => afterOkBytes .envWrap s.outcomes.length t
  | .fault f => .fault f
  | .refused r => .refused r

/-- `RX_RSP expected` (R138): ENV_UNWRAP, then the wait for its outcome, then FRAME_DEC if that is an `Ok`. If `patience`
steps bring no outcome the reception is left waiting, and the host may go on with `settle` and `afterOkBytes`. -/
def rxRsp (patience : Nat) (expected : Byte) (s : State) : Host.Outcome State Fault Refusal :=
  match exec .envUnwrap s with
  | .next t =>
    match settle patience t with
    | .next u => afterOkBytes (.frameDec expected) s.outcomes.length u
    | .fault f => .fault f
    | .refused r => .refused r
  | .fault f => .fault f
  | .refused r => .refused r

end Sys2Proof.Machine
end

