-- ==== Sys2Proof/Safety.lean ====
section
/-! DEFINITION. What the statements speak of: an engine that is idle, an operation in progress that makes sense, what
may stand on `TX`, the property of a table that 42_transport_framer.md R143 names, and changes of one byte. -/

namespace Sys2Proof.Machine

/-- No operation is in progress. -/
def State.idle (s : State) : Prop := s.busy = none

/-- No operation is in progress and the channel is open: what ENV_WRAP and ENV_UNWRAP need (R191, R197). -/
def State.ready (s : State) : Prop := s.busy = none ∧ s.channelOpen = true

/-- An operation in progress as R132, R134 and R131 leave one that waits: fewer than three header bytes; or a header that
passed phase VALIDATE and fewer than `length + 2` further bytes; or an envelope of `env_wrap` for a frame that is
not too long. -/
def busySound (s : State) : Prop :=
  match s.busy with
  | none => True
  | some (.header taken) => taken.length < headerBytes
  | some (.body msgType address length taken) =>
    address = s.moduleAddr ∧ acceptsMsgType msgType = true ∧ taken.length < length.toNat + trailerBytes
  | some (.sending envelope) =>
    ∃ frame, frame.length ≤ maxFrame ∧ envelope = envWrap s.table s.moduleAddr frame

/-- `TX` is made of first parts of envelopes that ENV_WRAP built (R49 a, R131): message type 0x05, `MODULE_ADDR`, a frame
of at most 256 bytes, its checksum trailer. -/
def txSound (s : State) : Prop :=
  ∃ parts : List (List Byte), s.tx = parts.flatten ∧
    ∀ p ∈ parts, ∃ frame, frame.length ≤ maxFrame ∧ p <+: envWrap s.table s.moduleAddr frame

/-- The invariant of the engine in its surroundings. -/
def State.sound (s : State) : Prop := busySound s ∧ txSound s

/-- `TableHighByteBijective` (R143): `i -> hi8(TABLE[i])` is a bijection on 0 to 255. -/
def TableHighByteBijective (table : Vector Word 256) : Prop :=
  Function.Bijective fun i : Byte => hi8 (tableRead table i)

/-- Two byte sequences of the same length that differ in exactly one byte (R143). -/
def DifferInOneByte (a b : List Byte) : Prop :=
  ∃ before x y after, x ≠ y ∧ a = before ++ x :: after ∧ b = before ++ y :: after

/-- A byte with one bit changed (R143): bit `k`, 0 the least significant. -/
def flipBit (b : Byte) (k : Nat) : Byte := b ^^^ (1#8 <<< k)

/-- A state after an operation on the channel has ended with outcome `o`: the host has the outcome, and `ACC` is whatever
it may be (R21). `a` and `d` are the unspecified accumulator and the model's own draw counter. -/
def State.afterChannel (s : State) (a : Word) (d : Nat) (o : OpOutcome) : State :=
  { s with acc := a, draws := d, outcomes := s.outcomes ++ [o] }

/-- A state after an operation that touches nothing else has given outcome `o`. -/
def State.answered (s : State) (o : OpOutcome) : State := { s with outcomes := s.outcomes ++ [o] }

/-- ENV_UNWRAP on this receive stream ends with outcome `o` and leaves `rest` on it; all else but `ACC` is as it was. -/
def unwrapAnswers (s : State) (rx : List RxItem) (o : OpOutcome) (rest : List RxItem) : Prop :=
  ∃ a d, exec .envUnwrap (s.setRx rx) = .next ((s.setRx rest).afterChannel a d o)

/-- The items of bytes on the receive stream. -/
def items (bytes : List Byte) : List RxItem := bytes.map .byte

end Sys2Proof.Machine
end

