-- ==== Sys2Proof/Certificates/Slice0/Obligations.lean ====
section
/-! DEFINITION. The statements for the provers. Each docstring names the rule of spec/ it formalises. -/

open Sys2Proof Sys2Proof.Machine

/-! ## Reset (10_state.md, 70_reset_and_hazards.md) -/

/-- R30: after reset `ACC` is zero, so that CRC_STEPs right after reset compute the checksum of the bytes stepped. -/
def Obligations.StepsFromResetComputeChecksum : Prop :=
  State.reset.acc = 0x0000 ∧
  ∀ bytes : List Byte, ∃ t, execSeq (bytes.map .crcStep) State.reset = .next t ∧
    t.acc = checksum State.reset.table bytes

/-- R33, R190: reset, at any time, clears `ACC` and the operation in progress, gives no outcome, and leaves `TABLE`,
`MODULE_ADDR`, `RX` and `TX`; but an operation it strikes has made a part of its accesses (U12, log entry 9): a reception
any first part of the takes that the next step would make, the last one included; an ENV_WRAP any first part of the bytes
that the transport takes, or would be offered. With no open channel a reception makes no take (log entry 10). -/
def Obligations.ResetEffect : Prop :=
  ∀ (s : State) (n : Nat) (later : List Event), s.events = .reset n :: later →
    ∃ t, step s = .next t ∧ t.acc = 0x0000 ∧ t.busy = none ∧ t.table = s.table ∧ t.moduleAddr = s.moduleAddr ∧
      t.outcomes = s.outcomes ∧ t.channelOpen = s.channelOpen ∧ t.events = later ∧
      (s.busy = none → t.rx = s.rx ∧ t.tx = s.tx ∧ t.writeAnswers = s.writeAnswers) ∧
      (∀ b, s.busy = some b → receives b = true → t.tx = s.tx ∧ t.writeAnswers = s.writeAnswers ∧
        (s.channelOpen = false → t.rx = s.rx) ∧
        ∀ u, step { s with events := [] } = .next u → t.rx = s.rx.drop (min n (s.rx.length - u.rx.length))) ∧
      ∀ e, s.busy = some (.sending e) → t.rx = s.rx ∧
        (s.writeAnswers = [] → t.tx = s.tx ++ e.take n ∧ t.writeAnswers = []) ∧
        ∀ room answers, s.writeAnswers = room :: answers →
          t.tx = s.tx ++ (e.take room).take n ∧ t.writeAnswers = answers

/-- R190, U12 (log entry 9): reset while ENV_UNWRAP or ENV_WRAP runs keeps a part of what it took or put. -/
def Obligations.ResetDuringOperation : Prop :=
  (∀ (s t : State) (n : Nat) (later : List Event), s.ready →
    s.events = .resetDuring (encode .envUnwrap) n :: later → exec .envUnwrap { s with events := later } = .next t →
    step s = .next { s with
      events := later, acc := 0x0000, rx := s.rx.drop (min n (s.rx.length - t.rx.length)) }) ∧
  ∀ (s : State) (frame : List Byte) (n room : Nat) (later : List Event) (answers : List Nat), s.ready →
    s.events = .resetDuring (encode (.envWrap frame)) n :: later → s.writeAnswers = room :: answers →
    frame.length ≤ 256 →
    step s = .next { s with
      events := later, acc := 0x0000, writeAnswers := answers,
      tx := s.tx ++ ((envWrap s.table s.moduleAddr frame).take room).take n }

/-! ## The checksum engine (40_checksum.md) -/

/-- R90: the step, and its two halves. -/
def Obligations.CrcStepFunction : Prop :=
  ∀ (table : Vector Word 256) (acc : Word) (b : Byte),
    crcStep table acc b = (hi8 acc).setWidth 16 ^^^ tableRead table (lo8 acc ^^^ b) ∧
    hi8 (crcStep table acc b) = hi8 (tableRead table (lo8 acc ^^^ b)) ∧
    lo8 (crcStep table acc b) = lo8 (tableRead table (lo8 acc ^^^ b)) ^^^ hi8 acc

/-- R92, R95 (the operations are the spec's decision D4): CRC_LOAD writes `ACC` and nothing else, and CRC_INIT is the load
of 0x0000. -/
def Obligations.CrcLoadResult : Prop :=
  (∀ (s : State) (v : Word), s.idle →
    exec (.crcLoad v) s = .next (({ s with acc := v } : State).answered (.ok .unit))) ∧
  ∀ s : State, execSeq crcInit s = exec (.crcLoad 0x0000) s

/-- R93: CRC_STEP steps `ACC` through one entry of `TABLE` and writes nothing else. -/
def Obligations.CrcStepResult : Prop :=
  (∀ (s : State) (b : Byte), s.idle →
    exec (.crcStep b) s = .next (({ s with acc := crcStep s.table s.acc b } : State).answered (.ok .unit))) ∧
  (∀ (s : State) (b : Byte), s.idle → s.acc = 0x0000 →
    exec (.crcStep b) s = .next (({ s with acc := tableRead s.table b } : State).answered (.ok .unit))) ∧
  ∀ (s : State), s.idle → exec (.crcStep (lo8 s.acc)) s =
    .next (({ s with acc := (hi8 s.acc).setWidth 16 ^^^ tableRead s.table 0x00 } : State).answered (.ok .unit))

/-- R94: CRC_READ answers `ACC` and changes nothing. -/
def Obligations.CrcReadResult : Prop :=
  ∀ s : State, s.idle → exec .crcRead s = .next (s.answered (.ok (.word s.acc)))

/-- R96: CHECKSUM answers the checksum last, leaves it in `ACC`, and changes nothing else. -/
def Obligations.ChecksumPseudoOperation : Prop :=
  ∀ (s : State) (bytes : List Byte), s.idle →
    execSeq (checksumOps bytes) s = .next { s with
      acc := checksum s.table bytes,
      outcomes := s.outcomes ++ (List.replicate (bytes.length + 1) (.ok .unit) ++ [.ok (.word (checksum s.table bytes))]) }

/-- R97: the incremental law, as functions and in operations, with the CRC_LOAD and without it. -/
def Obligations.ChecksumIncremental : Prop :=
  (∀ (table : Vector Word 256) (a b : List Byte),
    checksum table (a ++ b) = checksumFrom table (checksum table a) b) ∧
  (∀ (s : State) (a b : List Byte), s.idle →
    ∃ t, execSeq (.crcLoad (checksum s.table a) :: b.map .crcStep ++ [.crcRead]) s = .next t ∧
      t.lastOutcome = some (.ok (.word (checksum s.table (a ++ b))))) ∧
  ∀ (s : State) (a b : List Byte), s.idle →
    ∃ t, execSeq (checksumOps a ++ b.map .crcStep ++ [.crcRead]) s = .next t ∧
      t.lastOutcome = some (.ok (.word (checksum s.table (a ++ b))))

/-- R98: two engines with the same `TABLE`, whatever else differs, answer CHECKSUM alike. -/
def Obligations.ChecksumDependsOnTableAndBytesOnly : Prop :=
  ∀ (s₁ s₂ : State) (bytes : List Byte), s₁.idle → s₂.idle → s₁.table = s₂.table →
    ∃ t₁ t₂ v, execSeq (checksumOps bytes) s₁ = .next t₁ ∧ execSeq (checksumOps bytes) s₂ = .next t₂ ∧
      t₁.lastOutcome = some (.ok (.word v)) ∧ t₂.lastOutcome = some (.ok (.word v))

/-- R101 (general knowledge, not a fact about the hardware): the check value of the candidate table, under the step of
R90. -/
def Obligations.CandidateTableCheckValue : Prop :=
  checksum Config.tableArc [0x31, 0x32, 0x33, 0x34, 0x35, 0x36, 0x37, 0x38, 0x39] = 0xBB3D

/-- R143 b: the candidate table has the property `TableHighByteBijective`. -/
def Obligations.CandidateTableHighByteBijective : Prop := TableHighByteBijective Config.tableArc

/-! ## The frame codec (41_frame_codec.md) -/

/-- R111: FRAME_ENC answers the frame, or `LengthOverflow` for more than 254 bytes, and changes no other state. -/
def Obligations.FrameEncResult : Prop :=
  (∀ (s : State) (opcode : Byte) (payload : List Byte), s.idle → payload.length ≤ 254 →
    exec (.frameEnc opcode payload) s =
      .next (s.answered (.ok (.bytes (BitVec.ofNat 8 (1 + payload.length) :: opcode :: payload))))) ∧
  ∀ (s : State) (opcode : Byte) (payload : List Byte), s.idle → 254 < payload.length →
    exec (.frameEnc opcode payload) s = .next (s.answered (.fault (.lengthOverflow payload.length)))

/-- R110: the bytes of `frame_encode`, their number, and the invariant `length == 1 + len(payload)` of R61. -/
def Obligations.EncodedFrameInvariant : Prop :=
  ∀ (opcode : Byte) (payload : List Byte), payload.length ≤ 254 →
    ∃ length, frameEncode opcode payload = [length, opcode] ++ payload ∧ length.toNat = 1 + payload.length ∧
      (frameEncode opcode payload).length = payload.length + 2

/-- R112: the five tests of `frame_decode`, in order. -/
def Obligations.FrameDecodeTestsInOrder : Prop :=
  ∀ (expected : Byte),
    (∀ buf : List Byte, buf.length < 2 → frameDecode expected buf = .fault (.frameError (.tooShort buf.length))) ∧
    ∀ (length opcode : Byte) (rest : List Byte),
      (length.toNat ≠ 1 + rest.length →
        frameDecode expected (length :: opcode :: rest) =
          .fault (.frameError (.lengthMismatch length rest.length))) ∧
      (length.toNat = 1 + rest.length → length = 2 →
        ∃ code, rest = [code] ∧
          frameDecode expected (length :: opcode :: rest) = .deviceError (severityOf opcode) code opcode) ∧
      (length.toNat = 1 + rest.length → length ≠ 2 → opcode ≠ expected →
        frameDecode expected (length :: opcode :: rest) = .fault (.unexpectedOpcode expected opcode)) ∧
      (length.toNat = 1 + rest.length → length ≠ 2 → opcode = expected →
        frameDecode expected (length :: opcode :: rest) = .ok (.bytes rest))

/-- R113: `opsel` 0x4 is FRAME_DEC, which answers `frame_decode` and changes no state of the engine. -/
def Obligations.FrameDecResult : Prop :=
  (∀ (v : Word) (expected : Byte) (buf : List Byte), decode (.op 0x4 v expected buf) = .ok (.frameDec expected buf)) ∧
  ∀ (s : State) (expected : Byte) (buf : List Byte), s.idle →
    exec (.frameDec expected buf) s = .next (s.answered (frameDecode expected buf))

/-- R69: three values of the opcode byte have a meaning, and only in a frame whose length byte is 2; in a frame of any other
length the byte is only compared with the expected one. -/
def Obligations.SeveritySelection : Prop :=
  (∀ expected code : Byte, frameDecode expected [0x02, 0x88, code] = .deviceError .error code 0x88 ∧
    frameDecode expected [0x02, 0x89, code] = .deviceError .warning code 0x89 ∧
    frameDecode expected [0x02, 0x8A, code] = .deviceError .info code 0x8A) ∧
  (∀ expected opcode code : Byte, opcode ≠ 0x89 → opcode ≠ 0x8A →
    frameDecode expected [0x02, opcode, code] = .deviceError .error code opcode) ∧
  ∀ (expected length opcode : Byte) (payload : List Byte), length ≠ 2 → length.toNat = 1 + payload.length →
    frameDecode expected (length :: opcode :: payload) =
      if opcode = expected then .ok (.bytes payload) else .fault (.unexpectedOpcode expected opcode)

/-- R115: a frame of length byte 2 is always a device error, and an `Ok` never carries exactly one byte. -/
def Obligations.LengthTwoIsDeviceError : Prop :=
  (∀ (s : State) (expected opcode code : Byte), s.idle →
    exec (.frameDec expected [0x02, opcode, code]) s =
      .next (s.answered (.deviceError (severityOf opcode) code opcode))) ∧
  ∀ (expected : Byte) (buf payload : List Byte), frameDecode expected buf = .ok (.bytes payload) →
    payload.length = 0 ∨ (2 ≤ payload.length ∧ payload.length ≤ 254)

/-- R116: the round trip of the codec, where it holds and where it does not. -/
def Obligations.FrameRoundTrip : Prop :=
  ∀ (opcode : Byte) (payload : List Byte), payload.length ≤ 254 →
    (payload.length ≠ 1 → frameDecode opcode (frameEncode opcode payload) = .ok (.bytes payload)) ∧
    (∀ code, payload = [code] → ∀ expected,
      frameDecode expected (frameEncode opcode payload) = .deviceError (severityOf opcode) code opcode) ∧
    ∀ expected, expected ≠ opcode → payload.length ≠ 1 →
      frameDecode expected (frameEncode opcode payload) = .fault (.unexpectedOpcode expected opcode)

/-! ## The transport framer (42_transport_framer.md) -/

/-- R130: the bytes of `env_wrap`. -/
def Obligations.EnvWrapBytes : Prop :=
  ∀ (table : Vector Word 256) (addr : Byte) (frame : List Byte),
    envWrap table addr frame = [0x05, addr] ++ frame ++
      [lo8 (checksum table ([0x05, addr] ++ frame)), hi8 (checksum table ([0x05, addr] ++ frame))] ∧
    (envWrap table addr frame).length = frame.length + 4

/-- R64: the trailer is read back as the checksum it was written from. -/
def Obligations.TrailerRoundTrip : Prop :=
  (∀ c : Word, mk16 (lo8 c) (hi8 c) = c) ∧ ∀ lo hi : Byte, lo8 (mk16 lo hi) = lo ∧ hi8 (mk16 lo hi) = hi

/-- R131: ENV_WRAP refuses a frame that is too long and sends nothing; else what the transport takes of the envelope is on
`TX`, and less than all of it is a `ShortWrite`. -/
def Obligations.EnvWrapResult : Prop :=
  (∀ (s : State) (frame : List Byte), s.ready → 256 < frame.length →
    exec (.envWrap frame) s = .next (s.answered (.fault (.lengthOverflow frame.length)))) ∧
  (∀ (s : State) (frame : List Byte) (room : Nat) (later : List Nat), s.ready → s.writeAnswers = room :: later →
    frame.length ≤ 256 → frame.length + 4 ≤ room →
    ∃ a d, exec (.envWrap frame) s = .next (({ s with
      tx := s.tx ++ envWrap s.table s.moduleAddr frame, writeAnswers := later } : State).afterChannel a d (.ok .unit))) ∧
  ∀ (s : State) (frame : List Byte) (room : Nat) (later : List Nat), s.ready → s.writeAnswers = room :: later →
    frame.length ≤ 256 → room < frame.length + 4 →
    ∃ a d, exec (.envWrap frame) s = .next (({ s with
      tx := s.tx ++ (envWrap s.table s.moduleAddr frame).take room, writeAnswers := later } : State).afterChannel a d
        (.fault (.transportError (.shortWrite room (frame.length + 4)))))

/-- R43: with no answer of the transport ENV_WRAP waits, with no outcome; when the answer comes the next step does what
ENV_WRAP does with the answer there from the start, if no act outside strikes. That nothing is on `TX` while it waits is
the model's choice of log entry 4. -/
def Obligations.EnvWrapWaitsForAnswer : Prop :=
  ∀ (s : State) (frame : List Byte) (room : Nat), s.ready → s.struck = false → s.writeAnswers = [] →
    frame.length ≤ 256 →
    ∃ t, exec (.envWrap frame) s = .next t ∧ t.busy ≠ none ∧ t.tx = s.tx ∧ t.outcomes = s.outcomes ∧
      step { t with writeAnswers := [room] } = exec (.envWrap frame) { s with writeAnswers := [room] }

/-- R142: a good envelope is accepted, its frame returned, and what lies behind it left; the engine's own envelope is
refused after three items. -/
def Obligations.EnvelopeRoundTrip : Prop :=
  (∀ (s : State) (t length : Byte) (body : List Byte) (rest : List RxItem), s.ready → (t = 0x03 ∨ t = 0x07) →
    body.length = length.toNat →
    unwrapAnswers s
      (items ([t, s.moduleAddr] ++ (length :: body) ++
        trailer (checksum s.table ([t, s.moduleAddr] ++ (length :: body)))) ++ rest)
      (.ok (.bytes (length :: body))) rest) ∧
  ∀ (s : State) (frame : List Byte) (rest : List RxItem), s.ready →
    unwrapAnswers s (items (envWrap s.table s.moduleAddr frame) ++ rest)
      (.fault (.transportError (.badMsgType 0x05))) (items ((envWrap s.table s.moduleAddr frame).drop 3) ++ rest)

/-- R132: ENV_UNWRAP on a stream that runs into an `End`, or that holds a whole envelope: what it answers and what it
leaves, phase by phase. -/
def Obligations.EnvUnwrapInFourPhases : Prop :=
  ∀ (s : State) (rest : List RxItem), s.ready →
    -- phase HEADER: fewer than three bytes
    (∀ h : List Byte, h.length < 3 →
      unwrapAnswers s (items h ++ .endOfRead :: rest) (.fault (.transportError (.shortHeader h.length))) rest) ∧
    -- phase VALIDATE: the address first, then the message type, three items taken
    (∀ t a length : Byte, a ≠ s.moduleAddr →
      unwrapAnswers s (items [t, a, length] ++ rest) (.fault (.transportError (.badAddress a))) rest) ∧
    (∀ t length : Byte, t ≠ 0x03 → t ≠ 0x07 →
      unwrapAnswers s (items [t, s.moduleAddr, length] ++ rest) (.fault (.transportError (.badMsgType t))) rest) ∧
    ∀ t length : Byte, (t = 0x03 ∨ t = 0x07) →
      -- phase BODY: fewer than `length + 2` further bytes
      (∀ d : List Byte, d.length < length.toNat + 2 →
        unwrapAnswers s (items ([t, s.moduleAddr, length] ++ d) ++ .endOfRead :: rest)
          (.fault (.transportError (.shortBody d.length (length.toNat + 2)))) rest) ∧
      -- phase CHECK
      ∀ (body : List Byte) (crcLow crcHigh : Byte), body.length = length.toNat →
        let computed := checksum s.table ([t, s.moduleAddr, length] ++ body)
        unwrapAnswers s (items ([t, s.moduleAddr, length] ++ body ++ [crcLow, crcHigh]) ++ rest)
          (if computed ≠ mk16 crcLow crcHigh then .fault (.checksumError computed (mk16 crcLow crcHigh))
            else .ok (.bytes ([length] ++ body))) rest

/-- R136: on success the first byte of the result counts the bytes after it; a length byte of 0 gives `[00]`. -/
def Obligations.EnvUnwrapReturnsFrame : Prop :=
  (∀ (s u : State) (f : List Byte), exec .envUnwrap s = .next u → u.busy = none →
    u.outcomes = s.outcomes ++ [.ok (.bytes f)] → ∃ length body, f = length :: body ∧ body.length = length.toNat) ∧
  ∀ (s : State) (t : Byte) (rest : List RxItem), s.ready → (t = 0x03 ∨ t = 0x07) →
    unwrapAnswers s
      (items ([t, s.moduleAddr, 0x00] ++ trailer (checksum s.table [t, s.moduleAddr, 0x00])) ++ rest)
      (.ok (.bytes [0x00])) rest

/-- R42, R195: an ENV_UNWRAP that runs out of items waits with what it took and gives no outcome. The last clause is the
model's choice of log entry 7, and for a waiting ENV_WRAP, whose `TX` so stays as it is, of log entry 4: while what an
operation waits for is not there and no act outside is listed, a step leaves the state as it is. -/
def Obligations.EnvUnwrapWaits : Prop :=
  (∀ (s : State) (h : List Byte), s.ready → h.length < 3 →
    exec .envUnwrap (s.setRx (items h)) = .next ((s.setRx []).waitIn (.header h))) ∧
  (∀ (s : State) (t length : Byte) (d : List Byte), s.ready → (t = 0x03 ∨ t = 0x07) → d.length < length.toNat + 2 →
    exec .envUnwrap (s.setRx (items ([t, s.moduleAddr, length] ++ d))) =
      .next ((s.setRx []).waitIn (.body t s.moduleAddr length d))) ∧
  ∀ (s : State) (b : Busy), s.busy = some b → canProceed b s = false → s.events = [] → step s = .next s

/-- R46: a reception is the same whether its bytes are all there at once or arrive in pieces while it waits, if no act
outside strikes it. -/
def Obligations.ReceptionInPieces : Prop :=
  (∀ (s t : State) (first later : List RxItem), s.ready → s.struck = false → later ≠ [] →
    exec .envUnwrap (s.setRx first) = .next t → t.busy ≠ none →
    step (t.setRx later) = exec .envUnwrap (s.setRx (first ++ later))) ∧
  ∀ (s t : State) (b : Busy) (first later : List RxItem), s.busy = some b → receives b = true → s.struck = false →
    first ≠ [] → later ≠ [] → step (s.setRx first) = .next t → t.busy ≠ none →
    step (t.setRx later) = step (s.setRx (first ++ later))

/-- R143 b: under `TableHighByteBijective`, sequences that differ in exactly one byte have different checksums. -/
def Obligations.OneByteChangeChangesChecksum : Prop :=
  ∀ (table : Vector Word 256), TableHighByteBijective table →
    ∀ a b : List Byte, DifferInOneByte a b → checksum table a ≠ checksum table b

/-- R143: what becomes of a good envelope with exactly one bit changed, followed by `End`: cases (a) to (f). -/
def Obligations.SingleBitFlipOutcomes : Prop :=
  ∀ (s : State) (t length : Byte) (body : List Byte) (k : Nat), s.ready → (t = 0x03 ∨ t = 0x07) →
    body.length = length.toNat → k < 8 →
    let a := s.moduleAddr
    let c := checksum s.table ([t, a, length] ++ body)
    -- (a) a trailer byte
    (∀ lo hi, (lo = flipBit (lo8 c) k ∧ hi = hi8 c) ∨ (lo = lo8 c ∧ hi = flipBit (hi8 c) k) →
      unwrapAnswers s (items ([t, a, length] ++ body ++ [lo, hi]) ++ [.endOfRead])
        (.fault (.checksumError c (mk16 lo hi))) [.endOfRead]) ∧
    -- (b) the frame body, or bit 2 of the message type
    (∀ t' body', (t' = t ∧ ∃ p x q, body = p ++ x :: q ∧ body' = p ++ flipBit x k :: q) ∨
        (t' = flipBit t 2 ∧ body' = body) →
      let c' := checksum s.table ([t', a, length] ++ body')
      unwrapAnswers s (items ([t', a, length] ++ body' ++ trailer c) ++ [.endOfRead])
        (if c' = c then .ok (.bytes (length :: body')) else .fault (.checksumError c' c)) [.endOfRead] ∧
      (TableHighByteBijective s.table → c' ≠ c)) ∧
    -- (c) another bit of the message type
    (k ≠ 2 →
      unwrapAnswers s (items ([flipBit t k, a, length] ++ body ++ trailer c) ++ [.endOfRead])
        (.fault (.transportError (.badMsgType (flipBit t k)))) (items (body ++ trailer c) ++ [.endOfRead])) ∧
    -- (d) the address
    unwrapAnswers s (items ([t, flipBit a k, length] ++ body ++ trailer c) ++ [.endOfRead])
      (.fault (.transportError (.badAddress (flipBit a k)))) (items (body ++ trailer c) ++ [.endOfRead]) ∧
    -- (e) the length byte, made larger
    (length.toNat < (flipBit length k).toNat →
      unwrapAnswers s (items ([t, a, flipBit length k] ++ body ++ trailer c) ++ [.endOfRead])
        (.fault (.transportError (.shortBody (length.toNat + 2) ((flipBit length k).toNat + 2)))) []) ∧
    -- (f) the length byte, made smaller
    ((flipBit length k).toNat < length.toNat →
      let n := (flipBit length k).toNat
      let c' := checksum s.table ([t, a, flipBit length k] ++ body.take n)
      let r := mk16 ((body ++ trailer c).getD n 0) ((body ++ trailer c).getD (n + 1) 0)
      unwrapAnswers s (items ([t, a, flipBit length k] ++ body ++ trailer c) ++ [.endOfRead])
        (if c' = r then .ok (.bytes (flipBit length k :: body.take n)) else .fault (.checksumError c' r))
        (items ((body ++ trailer c).drop (n + 2)) ++ [.endOfRead]))

/-- R137: TX_CMD puts the whole envelope of the command on `TX`, or faults before anything is sent. -/
def Obligations.TxCmdResult : Prop :=
  (∀ (s : State) (opcode : Byte) (payload : List Byte) (room : Nat) (later : List Nat), s.ready →
    s.writeAnswers = room :: later → payload.length ≤ 254 → payload.length + 6 ≤ room →
    let pre := [0x05, s.moduleAddr, BitVec.ofNat 8 (1 + payload.length), opcode] ++ payload
    ∃ a d, txCmd opcode payload s = .next { s with
      tx := s.tx ++ (pre ++ [lo8 (checksum s.table pre), hi8 (checksum s.table pre)]),
      writeAnswers := later, acc := a, draws := d,
      outcomes := s.outcomes ++
        [.ok (.bytes (BitVec.ofNat 8 (1 + payload.length) :: opcode :: payload)), .ok .unit] }) ∧
  ∀ (s : State) (opcode : Byte) (payload : List Byte), s.idle → 254 < payload.length →
    txCmd opcode payload s = .next (s.answered (.fault (.lengthOverflow payload.length)))

/-- R138: RX_RSP is ENV_UNWRAP and the wait for its outcome, `u` being the state the wait ends in. A fault of ENV_UNWRAP
stands; after an `Ok` FRAME_DEC of the frame follows, and its `FrameError` can only be `TooShort` for a received length
byte of 0; with no outcome given (it still waits, or reset ended it) nothing is issued. How long the host watches is
`patience`, any number. -/
def Obligations.RxRspResult : Prop :=
  ∀ (s t u : State) (expected : Byte) (patience : Nat), exec .envUnwrap s = .next t → settle patience t = .next u →
    (u.outcomes = s.outcomes → rxRsp patience expected s = .next u) ∧
    (∀ k, u.outcomes = s.outcomes ++ [.fault k] → rxRsp patience expected s = .next u) ∧
    ∀ f, u.outcomes = s.outcomes ++ [.ok (.bytes f)] →
      rxRsp patience expected s = .next (u.answered (frameDecode expected f)) ∧
      ∀ c, frameDecode expected f = .fault (.frameError c) → c = .tooShort 1 ∧ f = [0x00]

/-- R138, R42: an RX_RSP that waits and gets its items later answers as one whose items were there from the start. -/
def Obligations.RxRspAcrossAWait : Prop :=
  ∀ (s t u : State) (expected : Byte) (patience : Nat) (items : List RxItem) (later : List Event), s.ready →
    s.events = .arrive items :: later → items ≠ [] → ({ s with events := later } : State).struck = false →
    exec .envUnwrap s = .next t → t.busy ≠ none →
    exec .envUnwrap { s with rx := s.rx ++ items, events := later } = .next u → u.busy = none →
    rxRsp (patience + 2) expected s = rxRsp 0 expected { s with rx := s.rx ++ items, events := later }

/-- R52: when another party removes `count` items after the first `n` takes of a reception that goes on, the reception is
one of what is left: of the `n` items before and of those behind the removed ones. First for an ENV_UNWRAP just issued,
then for a reception in progress. -/
def Obligations.RemovalInsideReception : Prop :=
  (∀ (s t : State) (n count : Nat) (later : List Event), s.ready →
    s.events = .discardDuring (encode .envUnwrap) n count :: later → n ≤ s.rx.length →
    exec .envUnwrap (s.setRx (s.rx.take n)) = .next t → t.busy ≠ none →
    ∃ u, step s = .next u ∧ u.busy = t.busy ∧ u.outcomes = s.outcomes ∧ u.rx = s.rx.drop (n + count) ∧
      u.events = later ∧ (u.rx ≠ [] → u.struck = false →
        step u = exec .envUnwrap { s with rx := s.rx.take n ++ s.rx.drop (n + count), events := later })) ∧
  ∀ (s t : State) (b : Busy) (n count : Nat) (later : List Event), s.busy = some b → receives b = true →
    s.events = .discard n count :: later → n ≤ s.rx.length →
    step { s with rx := s.rx.take n, events := [] } = .next t → t.busy ≠ none →
    ∃ u, step s = .next u ∧ u.busy = t.busy ∧ u.outcomes = s.outcomes ∧ u.rx = s.rx.drop (n + count) ∧
      u.events = later ∧ (u.rx ≠ [] → u.struck = false →
        step u = step { s with rx := s.rx.take n ++ s.rx.drop (n + count), events := later })

/-- R139: any number of receptions in a row, with no transmission between them, each take the next envelope (given as
message type, length byte, body). -/
def Obligations.SeveralReceptions : Prop :=
  ∀ (s : State) (envelopes : List (Byte × Byte × List Byte)) (rest : List RxItem), s.ready →
    (∀ e ∈ envelopes, (e.1 = 0x03 ∨ e.1 = 0x07) ∧ e.2.2.length = e.2.1.toNat) →
    s.rx = items (envelopes.flatMap fun e =>
      [e.1, s.moduleAddr, e.2.1] ++ e.2.2 ++ trailer (checksum s.table ([e.1, s.moduleAddr, e.2.1] ++ e.2.2))) ++ rest →
    ∃ u, execSeq (List.replicate envelopes.length .envUnwrap) s = .next u ∧ u.rx = rest ∧ u.tx = s.tx ∧
      u.outcomes = s.outcomes ++ envelopes.map fun e => .ok (.bytes (e.2.1 :: e.2.2))

/-! ## Outcomes, faults and whole-machine rules (60_exceptions.md, 10_state.md, 20_memory.md) -/

/-- R161, R162, R164: the numbers of fault kinds and sub-causes. -/
def Obligations.FaultNumbers : Prop :=
  (∀ v, outcomeNumber (.ok v) = 0x0) ∧ (∀ sev c o, outcomeNumber (.deviceError sev c o) = 0x0) ∧
  (∀ c, outcomeNumber (.fault (.transportError c)) = 0x1) ∧
  (∀ x y, outcomeNumber (.fault (.checksumError x y)) = 0x2) ∧
  (∀ c, outcomeNumber (.fault (.frameError c)) = 0x3) ∧
  (∀ x y, outcomeNumber (.fault (.unexpectedOpcode x y)) = 0x4) ∧
  (∀ n, outcomeNumber (.fault (.lengthOverflow n)) = 0x5) ∧
  (∀ k, outcomeNumber (.fault (.illegalOperation k)) = 0x6) ∧
  (∀ n, transportCauseNumber (.shortHeader n) = 0x1) ∧ (∀ a, transportCauseNumber (.badAddress a) = 0x2) ∧
  (∀ t, transportCauseNumber (.badMsgType t) = 0x3) ∧ (∀ n m, transportCauseNumber (.shortBody n m) = 0x4) ∧
  (∀ n m, transportCauseNumber (.shortWrite n m) = 0x5) ∧
  (∀ n, frameCauseNumber (.tooShort n) = 0x1) ∧ ∀ l n, frameCauseNumber (.lengthMismatch l n) = 0x2

/-- R72: a reserved `opsel` is answered by `IllegalOperation` and changes nothing else, whatever the operands. -/
def Obligations.ReservedOpselIsIllegalOperation : Prop :=
  ∀ (s : State) (opsel : BitVec 4) (v : Word) (b : Byte) (seq : List Byte) (later : List Event), s.idle →
    7 ≤ opsel.toNat → s.events = .issue (.op opsel v b seq) :: later →
    step s = .next (({ s with events := later } : State).answered (.fault (.illegalOperation opsel)))

/-- R192: with an operation in progress no instruction has a step. -/
def Obligations.NoSecondOperation : Prop :=
  ∀ (i : Instr) (s : State) (b : Busy), s.busy = some b → exec i s = .fault .overlappingOperation

/-- R191 (3), R197: what needs an open channel is refused without one; what does not, runs without one. -/
def Obligations.OnlyChannelOperationsNeedTheChannel : Prop :=
  ∀ (i : Instr) (s : State), s.idle → s.channelOpen = false →
    (channelUse i = .untouched → ∃ t, exec i s = .next t) ∧
    (channelUse i ≠ .untouched → exec i s = .refused .channelNotOpen)

/-- R160: an operation that is issued, and one in progress that goes on, ends with exactly one outcome or is left in progress
with none; an operation that reset ends gives none (R190) and is not spoken of here. -/
def Obligations.ExactlyOneOutcome : Prop :=
  (∀ (i : Instr) (s t : State), exec i s = .next t →
    (t.busy = none ∧ ∃ o, t.outcomes = s.outcomes ++ [o]) ∨ (t.busy ≠ none ∧ t.outcomes = s.outcomes)) ∧
  ∀ (s t : State) (b : Busy), s.busy = some b → canProceed b s = true → (∀ n later, s.events ≠ .reset n :: later) →
    step s = .next t →
    (t.busy = none ∧ ∃ o, t.outcomes = s.outcomes ++ [o]) ∨ (t.busy ≠ none ∧ t.outcomes = s.outcomes)

/-- R24: no operation reads back what an earlier one found: with another record of outcomes it does the same. -/
def Obligations.OutcomesAreNotReadBack : Prop :=
  ∀ (i : Instr) (s t : State) (other : List OpOutcome), exec i s = .next t →
    ∃ new, t.outcomes = s.outcomes ++ new ∧
      exec i { s with outcomes := other } = .next { t with outcomes := other ++ new }

/-- R141: transport-level faults and device-reported events are never one for the other. -/
def Obligations.TransportFaultsAndDeviceErrorsApart : Prop :=
  (∀ (i : Instr) (s t : State) (o : OpOutcome), exec i s = .next t → t.outcomes = s.outcomes ++ [o] →
    ((∃ sev code op, o = .deviceError sev code op) → channelUse i = .untouched) ∧
    ((∃ c, o = .fault (.transportError c)) → channelUse i ≠ .untouched) ∧
    ((∃ x y, o = .fault (.checksumError x y)) → ∃ arriving, channelUse i = .take arriving)) ∧
  ∀ (s u : State) (expected : Byte) (patience : Nat) (k : EngineFault), exec .envUnwrap s = .next u →
    u.outcomes = s.outcomes ++ [.fault k] → rxRsp patience expected s = .next u

/-- R49 (b), (d): nothing is taken from `RX` but from its front and by an unwrap, and nothing is put on `TX` but at its
back and by a wrap. -/
def Obligations.StreamsOnlyByTheFramer : Prop :=
  ∀ (i : Instr) (s t : State), exec i s = .next t →
    (channelUse i = .untouched → t.rx = s.rx ∧ t.tx = s.tx ∧ t.writeAnswers = s.writeAnswers) ∧
    (∀ f, channelUse i = .put f → t.rx = s.rx ∧ s.tx <+: t.tx) ∧
    ∀ bs, channelUse i = .take bs → t.tx = s.tx ∧ t.writeAnswers = s.writeAnswers ∧ ∃ n, t.rx = (s.rx ++ items bs).drop n

/-- R21: an instruction changes `ACC` only if it is CRC_LOAD, CRC_STEP or uses the channel; no instruction writes
`TABLE` or `MODULE_ADDR`, and none acts on the host's side of the interfaces. -/
def Obligations.WhoWritesWhat : Prop :=
  ∀ (i : Instr) (s t : State), exec i s = .next t →
    t.table = s.table ∧ t.moduleAddr = s.moduleAddr ∧ t.channelOpen = s.channelOpen ∧ t.events = s.events ∧
    (t.acc ≠ s.acc → (∃ v, i = .crcLoad v) ∨ (∃ b, i = .crcStep b) ∨ channelUse i ≠ .untouched)

/-- R135: an ENV_UNWRAP that ends removes from the front of `RX` at most three items, or at most `length + 5`, `length` being
the third of three header bytes that stood there. -/
def Obligations.EnvUnwrapTakesAtMostOneEnvelope : Prop :=
  ∀ s t : State, exec .envUnwrap s = .next t → t.busy = none → ∃ n, t.rx = s.rx.drop n ∧
    (n ≤ 3 ∨ ∃ msgType address length, items [msgType, address, length] <+: s.rx ∧ n ≤ length.toNat + 5)

/-- R31, R51: no step changes `TABLE` or `MODULE_ADDR`. -/
def Obligations.StepKeepsParameters : Prop :=
  ∀ s t : State, step s = .next t → t.table = s.table ∧ t.moduleAddr = s.moduleAddr

/-- R29, R49 (a), R201: every step leaves what is on `TX`, and the outcomes given, in front of what it adds. -/
def Obligations.StepOnlyAppends : Prop :=
  ∀ s t : State, step s = .next t → s.tx <+: t.tx ∧ s.outcomes <+: t.outcomes

/-- R131, R132, R140: the invariant of the engine: an operation in progress stands in a phase that makes sense, and `TX`
holds first parts of envelopes that ENV_WRAP built and nothing else. -/
def Obligations.StepKeepsSound : Prop := ∀ s t : State, s.sound → step s = .next t → t.sound

/-- The invariant holds at `State.reset`, where the model has `TX` empty (log entry 5). -/
def Obligations.ResetIsSound : Prop := State.reset.sound

/-! ## Requests (30_encoding.md) -/

/-- A step runs the decoded instruction: an idle engine to which the host issues a request that decodes to `i` does what
`exec i` does, the request being used up. The second clause is about the model's own forms: how `withFetchWord` places a
request (log entry 7), and how `decodeTableWord` reads a word of the opcode table, 0x3, 0x5 and 0x7 by choice (log entry
8). -/
def Obligations.StepRunsTheDecodedInstruction : Prop :=
  (∀ (s : State) (r : Request) (i : Instr) (later : List Event), s.idle → s.events = .issue r :: later →
    decode r = .ok i → step s = exec i { s with events := later }) ∧
  ∀ (s : State) (nbits w : Nat) (i : Instr), decodeTableWord nbits w = some i →
    step (s.withFetchWord nbits w) = exec i { s with busy := none }

/-- R29, R43, R52, R53, by log entry 6: what the acts of the world outside do, to an engine that is idle or waits for
something else. That nothing is lost and that items arrive when the channel is not open is log entry 10. -/
def Obligations.OutsideActs : Prop :=
  ∀ (s : State) (e : Event) (later : List Event), s.events = e :: later →
    (∀ b, s.busy = some b → canProceed b s = false) →
    (∀ xs, e = .arrive xs → step s = .next { s with events := later, rx := s.rx ++ xs }) ∧
    (∀ n, e = .writeAnswer n → step s = .next { s with events := later, writeAnswers := s.writeAnswers ++ [n] }) ∧
    (∀ n count, e = .discard n count → step s = .next { s with events := later, rx := s.rx.drop count }) ∧
    (e = .openChannel → step s = .next { s with events := later, channelOpen := true }) ∧
    (e = .closeChannel → step s = .next { s with events := later, channelOpen := false })

/-- R71: the table of `opsel`: the seven operations with the operands their rows name, and no other. -/
def Obligations.OpselTable : Prop :=
  ∀ (v : Word) (b : Byte) (seq : List Byte),
    decode (.op 0x0 v b seq) = .ok (.crcLoad v) ∧ decode (.op 0x1 v b seq) = .ok (.crcStep b) ∧
    decode (.op 0x2 v b seq) = .ok .crcRead ∧ decode (.op 0x3 v b seq) = .ok (.frameEnc b seq) ∧
    decode (.op 0x4 v b seq) = .ok (.frameDec b seq) ∧ decode (.op 0x5 v b seq) = .ok (.envWrap seq) ∧
    decode (.op 0x6 v b seq) = .ok .envUnwrap ∧
    ∀ opsel : BitVec 4, 7 ≤ opsel.toNat → decode (.op opsel v b seq) = .error (.reservedOpsel opsel)

/-- Requests written out from the layouts of R61 and R63 and the vectors of 95_test_vectors.md decode to what they stand
for. -/
def Obligations.WrittenRequestsDecode : Prop :=
  decode (.response 0x92 [0x03, 0x92, 0x4F, 0x4B]) = .ok (.frameReference (.decode 0x92 0x03 [0x4F, 0x4B])) ∧
  decode (.response 0x92 [0x02, 0x88, 0xD9]) = .ok (.frameSevError (.decode 0x92 0x02 [0xD9])) ∧
  decode (.command 0x91 []) = .ok (.frameStop (.encode [])) ∧
  decode (.receive [0x03, 0x01, 0x03, 0x92, 0x4F, 0x4B, 0xE8, 0x5D]) =
    .ok (.msgModuleToHost03 ⟨0x01, 0x03, [0x92, 0x4F, 0x4B], 0xE8, 0x5D⟩) ∧
  decode (.receive [0x07, 0x01, 0x00, 0xB0, 0x51]) = .ok (.msgModuleToHost07 ⟨0x01, 0x00, [], 0xB0, 0x51⟩) ∧
  decode (.receive [0x05, 0x01, 0x01, 0x92, 0xD1, 0x31]) =
    .ok (.msgHostToModule (.receive ⟨0x01, 0x01, [0x92], 0xD1, 0x31⟩))

/-- Decoding what the encoder writes gives the instruction back, for every well-formed instruction and every operand. -/
def Obligations.DecodeEncodeAgree : Prop := ∀ i : Instr, i.wf = true → decode (encode i) = .ok i

/-- What the decoder reads is well-formed. -/
def Obligations.DecodedIsWellFormed : Prop := ∀ (r : Request) (i : Instr), decode r = .ok i → i.wf = true

/-- R70, by log entry 8: assembling a command with a listed opcode (frameCfgRead, frameCfgWrite, frameSevError,
frameSevWarning, frameSevInfo, frameErrAck, frameStop, frameReference, framePosReached, frameStatus, frameErrDetail,
frameTargetA0 to frameTargetA4, frameMoveAbs, frameMoveB1, frameMoveB8, frameMoveB9, frameReboot, frameUserLevel,
frameCommTestE4, frameCommTestE5, frameNotifyToggle) is FRAME_ENC with that opcode. -/
def Obligations.ListedOpcodesAssemble : Prop :=
  ∀ (s : State) (payload : List Byte), s.idle → ∀ row ∈ frameRows,
    (payload.length ≤ 254 → exec (row.2 (.encode payload)) s =
      .next (s.answered (.ok (.bytes (BitVec.ofNat 8 (1 + payload.length) :: row.1 :: payload))))) ∧
    (254 < payload.length → exec (row.2 (.encode payload)) s =
      .next (s.answered (.fault (.lengthOverflow payload.length))))

/-- R70, R114, by log entry 8: taking apart a frame with a listed opcode (the same twenty-five rows) is FRAME_DEC of that
frame. -/
def Obligations.ListedOpcodesTakeApart : Prop :=
  ∀ (s : State) (expected length : Byte) (payload : List Byte), s.idle → ∀ row ∈ frameRows,
    exec (row.2 (.decode expected length payload)) s =
      .next (s.answered (frameDecode expected (length :: row.1 :: payload)))

/-- R68, by log entry 8: message type 0x05 is what ENV_WRAP writes, and an arriving envelope that has it is refused after
three items. -/
def Obligations.HostMessageType : Prop :=
  (∀ (s : State) (frame : List Byte) (room : Nat) (later : List Nat), s.ready → s.writeAnswers = room :: later →
    frame.length ≤ 256 → frame.length + 4 ≤ room →
    ∃ a d, exec (.msgHostToModule (.wrap frame)) s = .next (({ s with
      tx := s.tx ++ (0x05 :: s.moduleAddr :: frame ++ trailer (checksum s.table (0x05 :: s.moduleAddr :: frame))),
      writeAnswers := later } : State).afterChannel a d (.ok .unit))) ∧
  ∀ (s : State) (e : Envelope), s.ready → s.rx = [] → e.address = s.moduleAddr →
    ∃ a d, exec (.msgHostToModule (.receive e)) s = .next (({ s with
      rx := items (e.body ++ [e.crcLow, e.crcHigh]) } : State).afterChannel a d
        (.fault (.transportError (.badMsgType 0x05))))

/-- R68, by log entry 8: an arriving envelope of message type 0x03 and one of 0x07 with the right address and trailer are
accepted alike. -/
def Obligations.ModuleMessageTypes : Prop :=
  ∀ (s : State) (e : Envelope), s.ready → s.rx = [] → e.address = s.moduleAddr → e.body.length = e.length.toNat →
    (mk16 e.crcLow e.crcHigh = checksum s.table ([0x03, e.address, e.length] ++ e.body) →
      ∃ a d, exec (.msgModuleToHost03 e) s = .next (s.afterChannel a d (.ok (.bytes (e.length :: e.body))))) ∧
    (mk16 e.crcLow e.crcHigh = checksum s.table ([0x07, e.address, e.length] ++ e.body) →
      ∃ a d, exec (.msgModuleToHost07 e) s = .next (s.afterChannel a d (.ok (.bytes (e.length :: e.body)))))
end

