-- ==== Sys2Proof/Laws/State.lean ====
section
/-! SUPPORT. One lemma per field per named update of the state, so that no later proof unfolds a record update. -/

namespace Sys2Proof.Machine

variable (s : State)

/-! `State.setAcc` -/

@[simp] theorem State.setAcc_acc (v : Word) : (s.setAcc v).acc = v := rfl
@[simp] theorem State.setAcc_table (v : Word) : (s.setAcc v).table = s.table := rfl
@[simp] theorem State.setAcc_moduleAddr (v : Word) : (s.setAcc v).moduleAddr = s.moduleAddr := rfl
@[simp] theorem State.setAcc_rx (v : Word) : (s.setAcc v).rx = s.rx := rfl
@[simp] theorem State.setAcc_tx (v : Word) : (s.setAcc v).tx = s.tx := rfl
@[simp] theorem State.setAcc_busy (v : Word) : (s.setAcc v).busy = s.busy := rfl
@[simp] theorem State.setAcc_outcomes (v : Word) : (s.setAcc v).outcomes = s.outcomes := rfl
@[simp] theorem State.setAcc_channelOpen (v : Word) : (s.setAcc v).channelOpen = s.channelOpen := rfl
@[simp] theorem State.setAcc_writeAnswers (v : Word) : (s.setAcc v).writeAnswers = s.writeAnswers := rfl
@[simp] theorem State.setAcc_events (v : Word) : (s.setAcc v).events = s.events := rfl
@[simp] theorem State.setAcc_draws (v : Word) : (s.setAcc v).draws = s.draws := rfl

/-! `State.drawAcc` -/

@[simp] theorem State.drawAcc_acc : (s.drawAcc).acc = Config.freeAcc s.draws := rfl
@[simp] theorem State.drawAcc_table : (s.drawAcc).table = s.table := rfl
@[simp] theorem State.drawAcc_moduleAddr : (s.drawAcc).moduleAddr = s.moduleAddr := rfl
@[simp] theorem State.drawAcc_rx : (s.drawAcc).rx = s.rx := rfl
@[simp] theorem State.drawAcc_tx : (s.drawAcc).tx = s.tx := rfl
@[simp] theorem State.drawAcc_busy : (s.drawAcc).busy = s.busy := rfl
@[simp] theorem State.drawAcc_outcomes : (s.drawAcc).outcomes = s.outcomes := rfl
@[simp] theorem State.drawAcc_channelOpen : (s.drawAcc).channelOpen = s.channelOpen := rfl
@[simp] theorem State.drawAcc_writeAnswers : (s.drawAcc).writeAnswers = s.writeAnswers := rfl
@[simp] theorem State.drawAcc_events : (s.drawAcc).events = s.events := rfl
@[simp] theorem State.drawAcc_draws : (s.drawAcc).draws = s.draws + 1 := rfl

/-! `State.finish` -/

@[simp] theorem State.finish_acc (o : OpOutcome) : (s.finish o).acc = s.acc := rfl
@[simp] theorem State.finish_table (o : OpOutcome) : (s.finish o).table = s.table := rfl
@[simp] theorem State.finish_moduleAddr (o : OpOutcome) : (s.finish o).moduleAddr = s.moduleAddr := rfl
@[simp] theorem State.finish_rx (o : OpOutcome) : (s.finish o).rx = s.rx := rfl
@[simp] theorem State.finish_tx (o : OpOutcome) : (s.finish o).tx = s.tx := rfl
@[simp] theorem State.finish_busy (o : OpOutcome) : (s.finish o).busy = none := rfl
@[simp] theorem State.finish_outcomes (o : OpOutcome) : (s.finish o).outcomes = s.outcomes ++ [o] := rfl
@[simp] theorem State.finish_channelOpen (o : OpOutcome) : (s.finish o).channelOpen = s.channelOpen := rfl
@[simp] theorem State.finish_writeAnswers (o : OpOutcome) : (s.finish o).writeAnswers = s.writeAnswers := rfl
@[simp] theorem State.finish_events (o : OpOutcome) : (s.finish o).events = s.events := rfl
@[simp] theorem State.finish_draws (o : OpOutcome) : (s.finish o).draws = s.draws := rfl

/-! `State.raise` -/

@[simp] theorem State.raise_acc (f : EngineFault) : (s.raise f).acc = s.acc := rfl
@[simp] theorem State.raise_table (f : EngineFault) : (s.raise f).table = s.table := rfl
@[simp] theorem State.raise_moduleAddr (f : EngineFault) : (s.raise f).moduleAddr = s.moduleAddr := rfl
@[simp] theorem State.raise_rx (f : EngineFault) : (s.raise f).rx = s.rx := rfl
@[simp] theorem State.raise_tx (f : EngineFault) : (s.raise f).tx = s.tx := rfl
@[simp] theorem State.raise_busy (f : EngineFault) : (s.raise f).busy = none := rfl
@[simp] theorem State.raise_outcomes (f : EngineFault) : (s.raise f).outcomes = s.outcomes ++ [.fault f] := rfl
@[simp] theorem State.raise_channelOpen (f : EngineFault) : (s.raise f).channelOpen = s.channelOpen := rfl
@[simp] theorem State.raise_writeAnswers (f : EngineFault) : (s.raise f).writeAnswers = s.writeAnswers := rfl
@[simp] theorem State.raise_events (f : EngineFault) : (s.raise f).events = s.events := rfl
@[simp] theorem State.raise_draws (f : EngineFault) : (s.raise f).draws = s.draws := rfl

/-! `State.finishChannel` -/

@[simp] theorem State.finishChannel_acc (o : OpOutcome) : (s.finishChannel o).acc = Config.freeAcc s.draws := rfl
@[simp] theorem State.finishChannel_table (o : OpOutcome) : (s.finishChannel o).table = s.table := rfl
@[simp] theorem State.finishChannel_moduleAddr (o : OpOutcome) : (s.finishChannel o).moduleAddr = s.moduleAddr := rfl
@[simp] theorem State.finishChannel_rx (o : OpOutcome) : (s.finishChannel o).rx = s.rx := rfl
@[simp] theorem State.finishChannel_tx (o : OpOutcome) : (s.finishChannel o).tx = s.tx := rfl
@[simp] theorem State.finishChannel_busy (o : OpOutcome) : (s.finishChannel o).busy = none := rfl
@[simp] theorem State.finishChannel_outcomes (o : OpOutcome) : (s.finishChannel o).outcomes = s.outcomes ++ [o] := rfl
@[simp] theorem State.finishChannel_channelOpen (o : OpOutcome) : (s.finishChannel o).channelOpen = s.channelOpen := rfl
@[simp] theorem State.finishChannel_writeAnswers (o : OpOutcome) : (s.finishChannel o).writeAnswers = s.writeAnswers := rfl
@[simp] theorem State.finishChannel_events (o : OpOutcome) : (s.finishChannel o).events = s.events := rfl
@[simp] theorem State.finishChannel_draws (o : OpOutcome) : (s.finishChannel o).draws = s.draws + 1 := rfl

/-! `State.deliver` -/

@[simp] theorem State.deliver_acc (new : List RxItem) : (s.deliver new).acc = s.acc := rfl
@[simp] theorem State.deliver_table (new : List RxItem) : (s.deliver new).table = s.table := rfl
@[simp] theorem State.deliver_moduleAddr (new : List RxItem) : (s.deliver new).moduleAddr = s.moduleAddr := rfl
@[simp] theorem State.deliver_rx (new : List RxItem) : (s.deliver new).rx = s.rx ++ new := rfl
@[simp] theorem State.deliver_tx (new : List RxItem) : (s.deliver new).tx = s.tx := rfl
@[simp] theorem State.deliver_busy (new : List RxItem) : (s.deliver new).busy = s.busy := rfl
@[simp] theorem State.deliver_outcomes (new : List RxItem) : (s.deliver new).outcomes = s.outcomes := rfl
@[simp] theorem State.deliver_channelOpen (new : List RxItem) : (s.deliver new).channelOpen = s.channelOpen := rfl
@[simp] theorem State.deliver_writeAnswers (new : List RxItem) : (s.deliver new).writeAnswers = s.writeAnswers := rfl
@[simp] theorem State.deliver_events (new : List RxItem) : (s.deliver new).events = s.events := rfl
@[simp] theorem State.deliver_draws (new : List RxItem) : (s.deliver new).draws = s.draws := rfl

/-! `State.deliverBytes` -/

@[simp] theorem State.deliverBytes_acc (bytes : List Byte) : (s.deliverBytes bytes).acc = s.acc := rfl
@[simp] theorem State.deliverBytes_table (bytes : List Byte) : (s.deliverBytes bytes).table = s.table := rfl
@[simp] theorem State.deliverBytes_moduleAddr (bytes : List Byte) : (s.deliverBytes bytes).moduleAddr = s.moduleAddr := rfl
@[simp] theorem State.deliverBytes_rx (bytes : List Byte) : (s.deliverBytes bytes).rx = s.rx ++ bytes.map .byte := rfl
@[simp] theorem State.deliverBytes_tx (bytes : List Byte) : (s.deliverBytes bytes).tx = s.tx := rfl
@[simp] theorem State.deliverBytes_busy (bytes : List Byte) : (s.deliverBytes bytes).busy = s.busy := rfl
@[simp] theorem State.deliverBytes_outcomes (bytes : List Byte) : (s.deliverBytes bytes).outcomes = s.outcomes := rfl
@[simp] theorem State.deliverBytes_channelOpen (bytes : List Byte) : (s.deliverBytes bytes).channelOpen = s.channelOpen := rfl
@[simp] theorem State.deliverBytes_writeAnswers (bytes : List Byte) : (s.deliverBytes bytes).writeAnswers = s.writeAnswers := rfl
@[simp] theorem State.deliverBytes_events (bytes : List Byte) : (s.deliverBytes bytes).events = s.events := rfl
@[simp] theorem State.deliverBytes_draws (bytes : List Byte) : (s.deliverBytes bytes).draws = s.draws := rfl

/-! `State.txPut` -/

@[simp] theorem State.txPut_acc (bytes : List Byte) (room : Nat) : (s.txPut bytes room).acc = s.acc := rfl
@[simp] theorem State.txPut_table (bytes : List Byte) (room : Nat) : (s.txPut bytes room).table = s.table := rfl
@[simp] theorem State.txPut_moduleAddr (bytes : List Byte) (room : Nat) : (s.txPut bytes room).moduleAddr = s.moduleAddr := rfl
@[simp] theorem State.txPut_rx (bytes : List Byte) (room : Nat) : (s.txPut bytes room).rx = s.rx := rfl
@[simp] theorem State.txPut_tx (bytes : List Byte) (room : Nat) : (s.txPut bytes room).tx = s.tx ++ bytes.take room := rfl
@[simp] theorem State.txPut_busy (bytes : List Byte) (room : Nat) : (s.txPut bytes room).busy = s.busy := rfl
@[simp] theorem State.txPut_outcomes (bytes : List Byte) (room : Nat) : (s.txPut bytes room).outcomes = s.outcomes := rfl
@[simp] theorem State.txPut_channelOpen (bytes : List Byte) (room : Nat) : (s.txPut bytes room).channelOpen = s.channelOpen := rfl
@[simp] theorem State.txPut_writeAnswers (bytes : List Byte) (room : Nat) : (s.txPut bytes room).writeAnswers = s.writeAnswers := rfl
@[simp] theorem State.txPut_events (bytes : List Byte) (room : Nat) : (s.txPut bytes room).events = s.events := rfl
@[simp] theorem State.txPut_draws (bytes : List Byte) (room : Nat) : (s.txPut bytes room).draws = s.draws := rfl

/-! `State.applyReset` -/

@[simp] theorem State.applyReset_acc : (s.applyReset).acc = accInit := rfl
@[simp] theorem State.applyReset_table : (s.applyReset).table = s.table := rfl
@[simp] theorem State.applyReset_moduleAddr : (s.applyReset).moduleAddr = s.moduleAddr := rfl
@[simp] theorem State.applyReset_rx : (s.applyReset).rx = s.rx := rfl
@[simp] theorem State.applyReset_tx : (s.applyReset).tx = s.tx := rfl
@[simp] theorem State.applyReset_busy : (s.applyReset).busy = none := rfl
@[simp] theorem State.applyReset_outcomes : (s.applyReset).outcomes = s.outcomes := rfl
@[simp] theorem State.applyReset_channelOpen : (s.applyReset).channelOpen = s.channelOpen := rfl
@[simp] theorem State.applyReset_writeAnswers : (s.applyReset).writeAnswers = s.writeAnswers := rfl
@[simp] theorem State.applyReset_events : (s.applyReset).events = s.events := rfl
@[simp] theorem State.applyReset_draws : (s.applyReset).draws = s.draws := rfl

/-! `State.setRx` -/

@[simp] theorem State.setRx_acc (rx : List RxItem) : (s.setRx rx).acc = s.acc := rfl
@[simp] theorem State.setRx_table (rx : List RxItem) : (s.setRx rx).table = s.table := rfl
@[simp] theorem State.setRx_moduleAddr (rx : List RxItem) : (s.setRx rx).moduleAddr = s.moduleAddr := rfl
@[simp] theorem State.setRx_rx (rx : List RxItem) : (s.setRx rx).rx = rx := rfl
@[simp] theorem State.setRx_tx (rx : List RxItem) : (s.setRx rx).tx = s.tx := rfl
@[simp] theorem State.setRx_busy (rx : List RxItem) : (s.setRx rx).busy = s.busy := rfl
@[simp] theorem State.setRx_outcomes (rx : List RxItem) : (s.setRx rx).outcomes = s.outcomes := rfl
@[simp] theorem State.setRx_channelOpen (rx : List RxItem) : (s.setRx rx).channelOpen = s.channelOpen := rfl
@[simp] theorem State.setRx_writeAnswers (rx : List RxItem) : (s.setRx rx).writeAnswers = s.writeAnswers := rfl
@[simp] theorem State.setRx_events (rx : List RxItem) : (s.setRx rx).events = s.events := rfl
@[simp] theorem State.setRx_draws (rx : List RxItem) : (s.setRx rx).draws = s.draws := rfl

/-! `State.waitIn` -/

@[simp] theorem State.waitIn_acc (b : Busy) : (s.waitIn b).acc = s.acc := rfl
@[simp] theorem State.waitIn_table (b : Busy) : (s.waitIn b).table = s.table := rfl
@[simp] theorem State.waitIn_moduleAddr (b : Busy) : (s.waitIn b).moduleAddr = s.moduleAddr := rfl
@[simp] theorem State.waitIn_rx (b : Busy) : (s.waitIn b).rx = s.rx := rfl
@[simp] theorem State.waitIn_tx (b : Busy) : (s.waitIn b).tx = s.tx := rfl
@[simp] theorem State.waitIn_busy (b : Busy) : (s.waitIn b).busy = some b := rfl
@[simp] theorem State.waitIn_outcomes (b : Busy) : (s.waitIn b).outcomes = s.outcomes := rfl
@[simp] theorem State.waitIn_channelOpen (b : Busy) : (s.waitIn b).channelOpen = s.channelOpen := rfl
@[simp] theorem State.waitIn_writeAnswers (b : Busy) : (s.waitIn b).writeAnswers = s.writeAnswers := rfl
@[simp] theorem State.waitIn_events (b : Busy) : (s.waitIn b).events = s.events := rfl
@[simp] theorem State.waitIn_draws (b : Busy) : (s.waitIn b).draws = s.draws := rfl

/-! `State.discardFront` -/

@[simp] theorem State.discardFront_acc (count : Nat) : (s.discardFront count).acc = s.acc := rfl
@[simp] theorem State.discardFront_table (count : Nat) : (s.discardFront count).table = s.table := rfl
@[simp] theorem State.discardFront_moduleAddr (count : Nat) : (s.discardFront count).moduleAddr = s.moduleAddr := rfl
@[simp] theorem State.discardFront_rx (count : Nat) : (s.discardFront count).rx = s.rx.drop count := rfl
@[simp] theorem State.discardFront_tx (count : Nat) : (s.discardFront count).tx = s.tx := rfl
@[simp] theorem State.discardFront_busy (count : Nat) : (s.discardFront count).busy = s.busy := rfl
@[simp] theorem State.discardFront_outcomes (count : Nat) : (s.discardFront count).outcomes = s.outcomes := rfl
@[simp] theorem State.discardFront_channelOpen (count : Nat) : (s.discardFront count).channelOpen = s.channelOpen := rfl
@[simp] theorem State.discardFront_writeAnswers (count : Nat) : (s.discardFront count).writeAnswers = s.writeAnswers := rfl
@[simp] theorem State.discardFront_events (count : Nat) : (s.discardFront count).events = s.events := rfl
@[simp] theorem State.discardFront_draws (count : Nat) : (s.discardFront count).draws = s.draws := rfl

/-- The last `RX` counts. -/
@[simp] theorem State.setRx_setRx (a b : List RxItem) : (s.setRx a).setRx b = s.setRx b := rfl

end Sys2Proof.Machine
end

