-- ==== Sys2Proof/Laws/Ops.lean ====
section
/-! SUPPORT. What the shared operations can do: the two admission tests and a run of takes from `RX`. -/

namespace Sys2Proof.Machine

variable {s t : State} {k : State → Host.Outcome State Fault Refusal}

@[simp] theorem State.begin_idle (h : s.busy = none) : s.begin k = k s := by
  simp [State.begin, h]

@[simp] theorem State.begin_busy {b : Busy} (h : s.busy = some b) : s.begin k = .fault .overlappingOperation := by
  simp [State.begin, h]

/-- An operation that gives a next state began with none in progress. -/
theorem State.begin_eq_next (h : s.begin k = .next t) : s.busy = none ∧ k s = .next t := by
  unfold State.begin at h
  split at h
  · exact ⟨‹_›, h⟩
  · cases h

@[simp] theorem State.onChannel_open (h : s.channelOpen = true) : s.onChannel k = k s := by
  simp [State.onChannel, h]

@[simp] theorem State.onChannel_closed (h : s.channelOpen = false) : s.onChannel k = .refused .channelNotOpen := by
  simp [State.onChannel, h]

theorem State.onChannel_eq_next (h : s.onChannel k = .next t) : s.channelOpen = true ∧ k s = .next t := by
  unfold State.onChannel at h
  split at h
  · exact ⟨‹_›, h⟩
  · cases h

@[simp] theorem items_nil : items [] = [] := rfl
@[simp] theorem items_cons (b : Byte) (bs : List Byte) : items (b :: bs) = .byte b :: items bs := rfl
@[simp] theorem items_append (a b : List Byte) : items (a ++ b) = items a ++ items b := by simp [items]
@[simp] theorem items_length (a : List Byte) : (items a).length = a.length := by simp [items]

/-- Everything a run of takes can do (R42): the items it removed are the bytes it gained, and the `End` if it met one. -/
theorem takeBytes_cases (n : Nat) (got : List Byte) (rx : List RxItem) :
    (∃ bs rest, bs.length = n ∧ rx = items bs ++ rest ∧ takeBytes n got rx = .full (got ++ bs) rest) ∨
    (∃ bs rest, bs.length < n ∧ rx = items bs ++ .endOfRead :: rest ∧ takeBytes n got rx = .short (got ++ bs) rest) ∨
    (∃ bs, bs.length < n ∧ rx = items bs ∧ takeBytes n got rx = .waiting (got ++ bs)) := by
  induction n, got, rx using takeBytes.induct with
  | case1 got rx => exact .inl ⟨[], rx, by simp [takeBytes]⟩
  | case2 n got => exact .inr (.inr ⟨[], by simp [takeBytes]⟩)
  | case3 n got rx => exact .inr (.inl ⟨[], rx, by simp [takeBytes]⟩)
  | case4 n got b rx ih =>
    obtain ⟨bs, rest, hn, hrx, h⟩ | ⟨bs, rest, hn, hrx, h⟩ | ⟨bs, hn, hrx, h⟩ := ih
    · exact .inl ⟨b :: bs, rest, by simp [hn], by simp [hrx], by simpa [takeBytes] using h⟩
    · exact .inr (.inl ⟨b :: bs, rest, by simp [hn], by simp [hrx], by simpa [takeBytes] using h⟩)
    · exact .inr (.inr ⟨b :: bs, by simp [hn], by simp [hrx], by simpa [takeBytes] using h⟩)

/-- All the bytes are there. -/
theorem takeBytes_full (got bs : List Byte) (rest : List RxItem) :
    takeBytes bs.length got (items bs ++ rest) = .full (got ++ bs) rest := by
  induction bs generalizing got with
  | nil => simp [takeBytes]
  | cons b bs ih => simp [takeBytes, ih]

/-- An `End` comes first. -/
theorem takeBytes_short {n : Nat} (got bs : List Byte) (rest : List RxItem) (h : bs.length < n) :
    takeBytes n got (items bs ++ .endOfRead :: rest) = .short (got ++ bs) rest := by
  induction bs generalizing got n with
  | nil => obtain _ | n := n <;> simp_all [takeBytes]
  | cons b bs ih =>
    obtain _ | n := n
    · simp at h
    · simp [takeBytes, ih (n := n) (got ++ [b]) (by simpa using h)]

/-- The bytes run out. -/
theorem takeBytes_waiting {n : Nat} (got bs : List Byte) (h : bs.length < n) :
    takeBytes n got (items bs) = .waiting (got ++ bs) := by
  induction bs generalizing got n with
  | nil => obtain _ | n := n <;> simp_all [takeBytes]
  | cons b bs ih =>
    obtain _ | n := n
    · simp at h
    · simp [takeBytes, ih (n := n) (got ++ [b]) (by simpa using h)]

/-- Bytes that arrive later are taken as if they had been there (R46). -/
theorem takeBytes_append (m : Nat) (got bs : List Byte) (rx : List RxItem) :
    takeBytes (bs.length + m) got (items bs ++ rx) = takeBytes m (got ++ bs) rx := by
  induction bs generalizing got with
  | nil => simp
  | cons b bs ih => simpa [takeBytes, Nat.add_right_comm] using ih (got ++ [b])

end Sys2Proof.Machine
end

