-- ==== Sys2Proof/Laws/Framer.lean ====
section
/-! SUPPORT. What a reception and a transmission can do, said once for each shared operation of the framer. -/

namespace Sys2Proof.Machine

/-- The outcomes a reception can end with (42_transport_framer.md R133). -/
def ReceptionOutcome (o : OpOutcome) : Prop :=
  (∃ f, o = .ok (.bytes f)) ∨ (∃ c, o = .fault (.transportError c)) ∨ ∃ x y, o = .fault (.checksumError x y)

/-- Everything a reception can do to the state: items leave the front of `RX`; either it ends with one outcome, or it
waits on an empty `RX` in a phase that makes sense. -/
structure Received (s t : State) : Prop where
  table : t.table = s.table
  moduleAddr : t.moduleAddr = s.moduleAddr
  tx : t.tx = s.tx
  channelOpen : t.channelOpen = s.channelOpen
  writeAnswers : t.writeAnswers = s.writeAnswers
  events : t.events = s.events
  rx : ∃ n, t.rx = s.rx.drop n
  ending : (t.busy = none ∧ ∃ o, t.outcomes = s.outcomes ++ [o] ∧ ReceptionOutcome o) ∨
    (t.outcomes = s.outcomes ∧ t.rx = [] ∧ t.acc = s.acc ∧ t.busy ≠ none ∧ busySound t)

theorem Received.of_finish {s : State} {o : OpOutcome} {rest : List RxItem} (n : Nat) (hrx : rest = s.rx.drop n)
    (ho : ReceptionOutcome o) : Received s ((s.setRx rest).finishChannel o) :=
  ⟨rfl, rfl, rfl, rfl, rfl, rfl, ⟨n, hrx⟩, .inl ⟨rfl, o, rfl, ho⟩⟩

theorem drop_of_split {rx rest : List RxItem} {bs : List Byte} (h : rx = items bs ++ rest) :
    rest = rx.drop bs.length := by
  simp [h]

theorem drop_of_split_end {rx rest : List RxItem} {bs : List Byte} (h : rx = items bs ++ .endOfRead :: rest) :
    rest = rx.drop (bs.length + 1) := by
  have : rx = (items bs ++ [.endOfRead]) ++ rest := by simp [h]
  rw [this, List.drop_left' (by simp)]

theorem unwrapCheck_received (a b l : Byte) (d : List Byte) {s : State} {rest : List RxItem} (n : Nat)
    (hrx : rest = s.rx.drop n) : Received s (unwrapCheck a b l d (s.setRx rest)) := by
  unfold unwrapCheck
  dsimp only
  split
  · exact .of_finish n hrx (.inr (.inr ⟨_, _, rfl⟩))
  · exact .of_finish n hrx (.inl ⟨_, rfl⟩)

theorem unwrapBody_received {a b l : Byte} {got : List Byte} {s : State} (hb : b = s.moduleAddr)
    (ha : acceptsMsgType a = true) : Received s (unwrapBody a b l got s) := by
  unfold unwrapBody
  obtain ⟨bs, rest, -, hrx, h⟩ | ⟨bs, rest, -, hrx, h⟩ | ⟨bs, hn, hrx, h⟩ :=
    takeBytes_cases (l.toNat + trailerBytes - got.length) got s.rx
  · rw [h]; exact unwrapCheck_received _ _ _ _ _ (drop_of_split hrx)
  · rw [h]; exact .of_finish _ (drop_of_split_end hrx) (.inr (.inl ⟨_, rfl⟩))
  · rw [h]
    refine ⟨rfl, rfl, rfl, rfl, rfl, rfl, ⟨bs.length, by simp [hrx]⟩, .inr ⟨rfl, rfl, rfl, by simp, ?_⟩⟩
    refine ⟨hb, ha, ?_⟩
    simp only [List.length_append]
    omega

theorem Received.trans_rx {s t : State} {rest : List RxItem} (n : Nat) (hrx : rest = s.rx.drop n)
    (h : Received (s.setRx rest) t) : Received s t := by
  obtain ⟨m, hm⟩ := h.rx
  exact ⟨h.table, h.moduleAddr, h.tx, h.channelOpen, h.writeAnswers, h.events,
    ⟨n + m, by rw [hm, hrx, State.setRx_rx, List.drop_drop]⟩, h.ending⟩

theorem unwrapValidate_received (a b l : Byte) {s : State} {rest : List RxItem} (n : Nat)
    (hrx : rest = s.rx.drop n) : Received s (unwrapValidate a b l (s.setRx rest)) := by
  unfold unwrapValidate
  split
  · exact .of_finish n hrx (.inr (.inl ⟨_, rfl⟩))
  · rename_i hb
    split
    · exact .of_finish n hrx (.inr (.inl ⟨_, rfl⟩))
    · rename_i ha
      exact .trans_rx n hrx (unwrapBody_received (by simpa using hb) (by simpa using ha))

/-- A reception from phase HEADER. -/
theorem unwrapHeader_received (got : List Byte) (s : State) : Received s (unwrapHeader got s) := by
  unfold unwrapHeader
  obtain ⟨bs, rest, -, hrx, h⟩ | ⟨bs, rest, -, hrx, h⟩ | ⟨bs, hn, hrx, h⟩ :=
    takeBytes_cases (headerBytes - got.length) got s.rx
  · rw [h]; exact unwrapValidate_received _ _ _ _ (drop_of_split hrx)
  · rw [h]; exact .of_finish _ (drop_of_split_end hrx) (.inr (.inl ⟨_, rfl⟩))
  · rw [h]
    refine ⟨rfl, rfl, rfl, rfl, rfl, rfl, ⟨bs.length, by simp [hrx]⟩, .inr ⟨rfl, rfl, rfl, by simp, ?_⟩⟩
    show (got ++ bs).length < headerBytes
    simp only [List.length_append]
    omega

/-! What each phase does on a receive stream that is given (R132). -/

theorem unwrapHeader_of_header {s : State} {a b l : Byte} {rest : List RxItem}
    (h : s.rx = items [a, b, l] ++ rest) : unwrapHeader [] s = unwrapValidate a b l (s.setRx rest) := by
  have := takeBytes_full [] [a, b, l] rest
  simp only [unwrapHeader, h]
  rw [show headerBytes - ([] : List Byte).length = [a, b, l].length from rfl, this]
  rfl

theorem unwrapHeader_of_short {s : State} {h : List Byte} {rest : List RxItem} (hn : h.length < 3)
    (hrx : s.rx = items h ++ .endOfRead :: rest) :
    unwrapHeader [] s = (s.setRx rest).finishChannel (.fault (.transportError (.shortHeader h.length))) := by
  have := takeBytes_short (n := headerBytes - ([] : List Byte).length) [] h rest hn
  simp only [unwrapHeader, hrx, this, List.nil_append]

theorem unwrapHeader_of_waiting {s : State} {h : List Byte} (hn : h.length < 3) (hrx : s.rx = items h) :
    unwrapHeader [] s = (s.setRx []).waitIn (.header h) := by
  have := takeBytes_waiting (n := headerBytes - ([] : List Byte).length) [] h hn
  simp only [unwrapHeader, hrx, this, List.nil_append]

theorem unwrapBody_of_full {s : State} {a b l : Byte} {d : List Byte} {rest : List RxItem}
    (hn : d.length = l.toNat + 2) (hrx : s.rx = items d ++ rest) :
    unwrapBody a b l [] s = unwrapCheck a b l d (s.setRx rest) := by
  have := takeBytes_full [] d rest
  simp only [unwrapBody, hrx]
  rw [show l.toNat + trailerBytes - ([] : List Byte).length = d.length by simp [hn, trailerBytes], this]
  rfl

theorem unwrapBody_of_short {s : State} {a b l : Byte} {d : List Byte} {rest : List RxItem}
    (hn : d.length < l.toNat + 2) (hrx : s.rx = items d ++ .endOfRead :: rest) :
    unwrapBody a b l [] s =
      (s.setRx rest).finishChannel (.fault (.transportError (.shortBody d.length (l.toNat + 2)))) := by
  have := takeBytes_short (n := l.toNat + trailerBytes - ([] : List Byte).length) [] d rest hn
  simp only [unwrapBody, hrx, this, List.nil_append]
  rfl

theorem unwrapBody_of_waiting {s : State} {a b l : Byte} {d : List Byte} (hn : d.length < l.toNat + 2)
    (hrx : s.rx = items d) : unwrapBody a b l [] s = (s.setRx []).waitIn (.body a b l d) := by
  have := takeBytes_waiting (n := l.toNat + trailerBytes - ([] : List Byte).length) [] d hn
  simp only [unwrapBody, hrx, this, List.nil_append]

theorem unwrapValidate_good {s : State} {a b l : Byte} (ha : a = 0x03 ∨ a = 0x07) (hb : b = s.moduleAddr) :
    unwrapValidate a b l s = unwrapBody a b l [] s := by
  have : acceptsMsgType a = true := by obtain rfl | rfl := ha <;> decide
  simp [unwrapValidate, this, hb]

theorem unwrapCheck_of_layout {s : State} {a b l lo hi : Byte} {body : List Byte} (hn : body.length = l.toNat) :
    unwrapCheck a b l (body ++ [lo, hi]) s =
      if checksum s.table (a :: b :: l :: body) = mk16 lo hi then s.finishChannel (.ok (.bytes (l :: body)))
      else s.finishChannel (.fault (.checksumError (checksum s.table (a :: b :: l :: body)) (mk16 lo hi))) := by
  have h1 : (body ++ [lo, hi]).take l.toNat = body := by simp [← hn]
  have h2 : (body ++ [lo, hi]).getD l.toNat 0 = lo := by simp [← hn]
  have h3 : (body ++ [lo, hi]).getD (l.toNat + 1) 0 = hi := by simp [← hn]
  simp only [unwrapCheck, h1, h2, h3, ne_eq, ite_not]

/-- Everything the one offer of an envelope can do: a first part of it goes to `TX` with one outcome, or it waits. -/
structure Sent (envelope : List Byte) (s t : State) : Prop where
  table : t.table = s.table
  moduleAddr : t.moduleAddr = s.moduleAddr
  rx : t.rx = s.rx
  channelOpen : t.channelOpen = s.channelOpen
  events : t.events = s.events
  ending : (t.busy = none ∧ (∃ room, t.tx = s.tx ++ envelope.take room) ∧
      ∃ o, t.outcomes = s.outcomes ++ [o] ∧ (o = .ok .unit ∨ ∃ c, o = .fault (.transportError c))) ∨
    (t.outcomes = s.outcomes ∧ t.tx = s.tx ∧ t.acc = s.acc ∧ t.busy = some (.sending envelope))

theorem wrapOffer_sent (envelope : List Byte) (s : State) : Sent envelope s (wrapOffer envelope s) := by
  unfold wrapOffer
  split
  · exact ⟨rfl, rfl, rfl, rfl, rfl, .inr ⟨rfl, rfl, rfl, rfl⟩⟩
  · refine ⟨rfl, rfl, rfl, rfl, rfl, .inl ⟨rfl, ⟨_, rfl⟩, _, rfl, ?_⟩⟩
    split
    · exact .inr ⟨_, rfl⟩
    · exact .inl rfl

/-! What an operation in progress can do when an act outside strikes it. -/

/-- `runFor` leaves the state as it is, or the reception in progress has gone on with the items that it was given. -/
theorem State.runFor_cases (n : Nat) (s : State) :
    s.runFor n = s ∨ ∃ b, s.busy = some b ∧ receives b = true ∧ s.channelOpen = true ∧
      canProceed b (s.setRx (s.rx.take n)) = true ∧
      s.runFor n = (proceed b (s.setRx (s.rx.take n))).deliver (s.rx.drop n) := by
  unfold State.runFor
  split
  · exact .inl rfl
  · rename_i b hb
    split
    · rename_i h
      simp only [Bool.and_eq_true] at h
      exact .inr ⟨b, hb, h.1.1, h.1.2, h.2, rfl⟩
    · exact .inl rfl

/-- Everything a reception that goes on can do, from any phase and any state. -/
structure WentOn (s t : State) : Prop where
  table : t.table = s.table
  moduleAddr : t.moduleAddr = s.moduleAddr
  tx : t.tx = s.tx
  channelOpen : t.channelOpen = s.channelOpen
  writeAnswers : t.writeAnswers = s.writeAnswers
  events : t.events = s.events
  rx : ∃ n, t.rx = s.rx.drop n
  ending : (t.busy = none ∧ ∃ o, t.outcomes = s.outcomes ++ [o] ∧ ReceptionOutcome o) ∨
    (t.outcomes = s.outcomes ∧ t.rx = [] ∧ ∃ b, t.busy = some b ∧ receives b = true)

theorem Received.wentOn {s t : State} (h : Received s t) (hb : ∀ b, t.busy = some b → receives b = true) :
    WentOn s t := by
  refine ⟨h.table, h.moduleAddr, h.tx, h.channelOpen, h.writeAnswers, h.events, h.rx, ?_⟩
  obtain h | ⟨ho, hrx, -, hne, -⟩ := h.ending
  · exact .inl h
  · obtain ⟨b, e⟩ := Option.ne_none_iff_exists'.mp hne
    exact .inr ⟨ho, hrx, b, e, hb b e⟩

theorem unwrapCheck_busy (a b l : Byte) (d : List Byte) (s : State) : (unwrapCheck a b l d s).busy = none := by
  unfold unwrapCheck
  dsimp only
  split <;> rfl

theorem unwrapBody_receives {a b l : Byte} {got : List Byte} {s : State} {c : Busy}
    (h : (unwrapBody a b l got s).busy = some c) : receives c = true := by
  unfold unwrapBody at h
  split at h
  · rw [unwrapCheck_busy] at h; cases h
  · cases h
  · cases h; rfl

theorem unwrapHeader_receives {got : List Byte} {s : State} {c : Busy}
    (h : (unwrapHeader got s).busy = some c) : receives c = true := by
  unfold unwrapHeader at h
  split at h
  · unfold unwrapValidate at h
    split at h
    · cases h
    · split at h
      · cases h
      · exact unwrapBody_receives h
  · cases h
  · cases h; rfl

theorem unwrapBody_wentOn (a b l : Byte) (got : List Byte) (s : State) : WentOn s (unwrapBody a b l got s) := by
  unfold unwrapBody
  obtain ⟨bs, rest, -, hrx, h⟩ | ⟨bs, rest, -, hrx, h⟩ | ⟨bs, hn, hrx, h⟩ :=
    takeBytes_cases (l.toNat + trailerBytes - got.length) got s.rx
  · rw [h]
    refine Received.wentOn (unwrapCheck_received _ _ _ _ _ (drop_of_split hrx)) fun c hc => ?_
    rw [show _ = none from unwrapCheck_busy ..] at hc; cases hc
  · rw [h]
    exact Received.wentOn (.of_finish _ (drop_of_split_end hrx) (.inr (.inl ⟨_, rfl⟩))) fun c hc => by cases hc
  · rw [h]
    exact ⟨rfl, rfl, rfl, rfl, rfl, rfl, ⟨bs.length, by simp [hrx]⟩, .inr ⟨rfl, rfl, _, rfl, rfl⟩⟩

/-- A reception that goes on, from any phase. -/
theorem proceed_wentOn {b : Busy} (s : State) (hb : receives b = true) : WentOn s (proceed b s) := by
  cases b with
  | header got => exact (unwrapHeader_received got s).wentOn fun _ => unwrapHeader_receives
  | body a c l got => exact unwrapBody_wentOn a c l got s
  | sending e => cases hb

/-- Everything `runFor` can do. -/
structure Ran (s t : State) : Prop where
  table : t.table = s.table
  moduleAddr : t.moduleAddr = s.moduleAddr
  tx : t.tx = s.tx
  channelOpen : t.channelOpen = s.channelOpen
  writeAnswers : t.writeAnswers = s.writeAnswers
  events : t.events = s.events
  outcomes : t = s ∨ (t.busy = none ∧ ∃ o, t.outcomes = s.outcomes ++ [o]) ∨
    (t.outcomes = s.outcomes ∧ ∃ b, t.busy = some b ∧ receives b = true)

theorem State.runFor_ran (n : Nat) (s : State) : Ran s (s.runFor n) := by
  obtain h | ⟨b, -, hb, -, -, h⟩ := s.runFor_cases n
  · rw [h]; exact ⟨rfl, rfl, rfl, rfl, rfl, rfl, .inl rfl⟩
  · rw [h]
    have w := proceed_wentOn (s.setRx (s.rx.take n)) hb
    refine ⟨w.table, w.moduleAddr, w.tx, w.channelOpen, w.writeAnswers, w.events, .inr ?_⟩
    obtain ⟨h1, o, h2, -⟩ | ⟨h1, -, h2⟩ := w.ending
    · exact .inl ⟨h1, o, h2⟩
    · exact .inr ⟨h1, h2⟩

/-- Everything `putBefore` can do: a first part of the envelope is put, and perhaps an answer is used. -/
theorem State.putBefore_cases (envelope : List Byte) (n : Nat) (s : State) :
    ∃ p answers, p <+: envelope ∧
      s.putBefore envelope n = { s with tx := s.tx ++ p, writeAnswers := answers } := by
  unfold State.putBefore
  split
  · exact ⟨_, s.writeAnswers, List.take_prefix _ _, rfl⟩
  · exact ⟨_, _, (List.take_prefix _ _).trans (List.take_prefix _ _), rfl⟩

/-- Everything `takeBefore` can do: items leave the front of `RX`. -/
theorem State.takeBefore_cases (b : Busy) (n : Nat) (s : State) : ∃ k, k ≤ n ∧ s.takeBefore b n = s.setRx (s.rx.drop k) :=
  ⟨_, Nat.min_le_left _ _, rfl⟩

/-! No operation reads what the world outside will do next. -/

theorem unwrapCheck_events (a b l : Byte) (d : List Byte) (s : State) (es : List Event) :
    unwrapCheck a b l d { s with events := es } = { unwrapCheck a b l d s with events := es } := by
  unfold unwrapCheck
  dsimp only
  split <;> rfl

theorem unwrapBody_events (a b l : Byte) (got : List Byte) (s : State) (es : List Event) :
    unwrapBody a b l got { s with events := es } = { unwrapBody a b l got s with events := es } := by
  unfold unwrapBody
  dsimp only
  split
  · exact unwrapCheck_events _ _ _ _ (s.setRx _) es
  · rfl
  · rfl

theorem unwrapValidate_events (a b l : Byte) (s : State) (es : List Event) :
    unwrapValidate a b l { s with events := es } = { unwrapValidate a b l s with events := es } := by
  unfold unwrapValidate
  dsimp only
  split
  · rfl
  · split
    · rfl
    · exact unwrapBody_events _ _ _ _ s es

theorem unwrapHeader_events (got : List Byte) (s : State) (es : List Event) :
    unwrapHeader got { s with events := es } = { unwrapHeader got s with events := es } := by
  unfold unwrapHeader
  dsimp only
  split
  · exact unwrapValidate_events _ _ _ (s.setRx _) es
  · rfl
  · rfl

theorem wrapOffer_events (envelope : List Byte) (s : State) (es : List Event) :
    wrapOffer envelope { s with events := es } = { wrapOffer envelope s with events := es } := by
  unfold wrapOffer
  dsimp only
  split <;> rfl

theorem proceed_events (b : Busy) (s : State) (es : List Event) :
    proceed b { s with events := es } = { proceed b s with events := es } := by
  cases b with
  | header got => exact unwrapHeader_events got s es
  | body a c l got => exact unwrapBody_events a c l got s es
  | sending e => exact wrapOffer_events e s es

end Sys2Proof.Machine
end

