-- ==== Sys2Proof/Laws/Exec.lean ====
section
/-! SUPPORT. Everything an instruction can do, said once for all of them by what they do with the channel. -/

namespace Sys2Proof.Machine

/-- What an instruction that leaves the channel alone can do: one outcome, and perhaps a new `ACC`. -/
def PlainEffect (i : Instr) (s t : State) : Prop :=
  ∃ v o, t = (s.setAcc v).finish o ∧
    (v = s.acc ∨ (∃ w, i = .crcLoad w) ∨ ∃ b, i = .crcStep b) ∧
    (∀ c, o ≠ .fault (.transportError c)) ∧ ∀ x y, o ≠ .fault (.checksumError x y)

theorem execCrcLoad_next {v : Word} {s t : State} (h : execCrcLoad v s = .next t) :
    s.busy = none ∧ t = (s.setAcc v).finish (.ok .unit) := by
  obtain ⟨hb, h⟩ := State.begin_eq_next h
  cases h
  exact ⟨hb, rfl⟩

theorem execCrcStep_next {b : Byte} {s t : State} (h : execCrcStep b s = .next t) :
    s.busy = none ∧ t = (s.setAcc (crcStep s.table s.acc b)).finish (.ok .unit) := by
  obtain ⟨hb, h⟩ := State.begin_eq_next h
  cases h
  exact ⟨hb, rfl⟩

theorem execCrcRead_next {s t : State} (h : execCrcRead s = .next t) :
    s.busy = none ∧ t = s.finish (.ok (.word s.acc)) := by
  obtain ⟨hb, h⟩ := State.begin_eq_next h
  cases h
  exact ⟨hb, rfl⟩

theorem doFrameEnc_next {op : Byte} {p : List Byte} {s t : State} (h : doFrameEnc op p s = .next t) :
    s.busy = none ∧ t = s.finish (frameEncOutcome op p) := by
  obtain ⟨hb, h⟩ := State.begin_eq_next h
  cases h
  exact ⟨hb, rfl⟩

theorem doFrameDec_next {e : Byte} {buf : List Byte} {s t : State} (h : doFrameDec e buf s = .next t) :
    s.busy = none ∧ t = s.finish (frameDecode e buf) := by
  obtain ⟨hb, h⟩ := State.begin_eq_next h
  cases h
  exact ⟨hb, rfl⟩

theorem doEnvWrap_next {f : List Byte} {s t : State} (h : doEnvWrap f s = .next t) :
    s.busy = none ∧ s.channelOpen = true ∧
      t = if f.length > maxFrame then s.raise (.lengthOverflow f.length)
        else wrapOffer (envWrap s.table s.moduleAddr f) s := by
  obtain ⟨hb, h⟩ := State.begin_eq_next h
  obtain ⟨ho, h⟩ := State.onChannel_eq_next h
  cases h
  exact ⟨hb, ho, rfl⟩

theorem doEnvUnwrap_next {bs : List Byte} {s t : State} (h : doEnvUnwrap bs s = .next t) :
    s.busy = none ∧ s.channelOpen = true ∧ t = unwrapHeader [] (s.deliverBytes bs) := by
  obtain ⟨hb, h⟩ := State.begin_eq_next h
  obtain ⟨ho, h⟩ := State.onChannel_eq_next h
  cases h
  exact ⟨hb, ho, rfl⟩

theorem frameEncOutcome_plain (op : Byte) (p : List Byte) :
    (∀ c, frameEncOutcome op p ≠ .fault (.transportError c)) ∧ ∀ x y, frameEncOutcome op p ≠ .fault (.checksumError x y) := by
  unfold frameEncOutcome
  split <;> simp

theorem frameDecode_plain (e : Byte) (buf : List Byte) :
    (∀ c, frameDecode e buf ≠ .fault (.transportError c)) ∧ ∀ x y, frameDecode e buf ≠ .fault (.checksumError x y) := by
  unfold frameDecode
  split
  · split
    · simp
    · split
      · simp
      · split <;> simp
  · simp

theorem plainEffect_of_finish {i : Instr} {s t : State} {o : OpOutcome}
    (ho : (∀ c, o ≠ .fault (.transportError c)) ∧ ∀ x y, o ≠ .fault (.checksumError x y))
    (h : s.busy = none ∧ t = s.finish o) : s.busy = none ∧ PlainEffect i s t :=
  ⟨h.1, s.acc, o, h.2, .inl rfl, ho⟩

theorem doFrameRow_next {i : Instr} {op : Byte} {u : FrameUse} {s t : State} (h : doFrameRow op u s = .next t) :
    s.busy = none ∧ PlainEffect i s t := by
  cases u with
  | encode p => exact plainEffect_of_finish (frameEncOutcome_plain op p) (doFrameEnc_next h)
  | decode e l p => exact plainEffect_of_finish (frameDecode_plain e _) (doFrameDec_next h)

/-- What an instruction does when it gives a next state, by its use of the channel. -/
def Effect (i : Instr) (s t : State) : Prop :=
  match channelUse i with
  | .untouched => PlainEffect i s t
  | .put f => s.channelOpen = true ∧
      t = if f.length > maxFrame then s.raise (.lengthOverflow f.length)
        else wrapOffer (envWrap s.table s.moduleAddr f) s
  | .take bs => s.channelOpen = true ∧ t = unwrapHeader [] (s.deliverBytes bs)

/-- The inversion lemma of `exec`. -/
theorem exec_next {i : Instr} {s t : State} (h : exec i s = .next t) : s.busy = none ∧ Effect i s t := by
  cases i with
  | crcLoad v =>
    obtain ⟨hb, rfl⟩ := execCrcLoad_next h
    exact ⟨hb, v, _, rfl, .inr (.inl ⟨v, rfl⟩), by simp, by simp⟩
  | crcStep b =>
    obtain ⟨hb, rfl⟩ := execCrcStep_next h
    exact ⟨hb, _, _, rfl, .inr (.inr ⟨b, rfl⟩), by simp, by simp⟩
  | crcRead => exact plainEffect_of_finish (by simp) (execCrcRead_next h)
  | frameEnc op p => exact plainEffect_of_finish (frameEncOutcome_plain op p) (doFrameEnc_next h)
  | frameDec e buf => exact plainEffect_of_finish (frameDecode_plain e buf) (doFrameDec_next h)
  | envWrap f => exact doEnvWrap_next h
  | envUnwrap => exact doEnvUnwrap_next h
  | msgHostToModule u =>
    cases u with
    | wrap f => exact doEnvWrap_next h
    | receive e => exact doEnvUnwrap_next h
  | msgModuleToHost03 e => exact doEnvUnwrap_next h
  | msgModuleToHost07 e => exact doEnvUnwrap_next h
  | frameCfgRead u => exact doFrameRow_next h
  | frameCfgWrite u => exact doFrameRow_next h
  | frameSevError u => exact doFrameRow_next h
  | frameSevWarning u => exact doFrameRow_next h
  | frameSevInfo u => exact doFrameRow_next h
  | frameErrAck u => exact doFrameRow_next h
  | frameStop u => exact doFrameRow_next h
  | frameReference u => exact doFrameRow_next h
  | framePosReached u => exact doFrameRow_next h
  | frameStatus u => exact doFrameRow_next h
  | frameErrDetail u => exact doFrameRow_next h
  | frameTargetA0 u => exact doFrameRow_next h
  | frameTargetA1 u => exact doFrameRow_next h
  | frameTargetA2 u => exact doFrameRow_next h
  | frameTargetA3 u => exact doFrameRow_next h
  | frameTargetA4 u => exact doFrameRow_next h
  | frameMoveAbs u => exact doFrameRow_next h
  | frameMoveB1 u => exact doFrameRow_next h
  | frameMoveB8 u => exact doFrameRow_next h
  | frameMoveB9 u => exact doFrameRow_next h
  | frameReboot u => exact doFrameRow_next h
  | frameUserLevel u => exact doFrameRow_next h
  | frameCommTestE4 u => exact doFrameRow_next h
  | frameCommTestE5 u => exact doFrameRow_next h
  | frameNotifyToggle u => exact doFrameRow_next h

end Sys2Proof.Machine
end

