-- ==== Sys2Proof/Laws/PerInstr.lean ====
section
/-! SUPPORT. A statement made per instruction: the request that encodes it carries the value the opcode table gives
its row (30_encoding.md R68, R70, R71), in the place the row's format says. -/

namespace Sys2Proof.Laws

/-- The formats of spec/opcode_table.json. -/
inductive Format where
  | op
  | msgType
  | frameOpcode
  deriving DecidableEq, Repr

/-- Where the select code, the message type or the frame's opcode byte stands in a request. -/
def requestKey : Request → Option (Format × Nat)
  | .op opsel _ _ _ => some (.op, opsel.toNat)
  | .command opcode _ => some (.frameOpcode, opcode.toNat)
  | .response _ (_ :: opcode :: _) => some (.frameOpcode, opcode.toNat)
  | .response _ _ => none
  | .send msgType _ => some (.msgType, msgType.toNat)
  | .receive (msgType :: _) => some (.msgType, msgType.toNat)
  | .receive [] => none

/-- The format and the match value of each row of spec/opcode_table.json. -/
def rowKey : Instr → Format × Nat
  | .crcLoad _ => (.op, 0x0)
  | .crcStep _ => (.op, 0x1)
  | .crcRead => (.op, 0x2)
  | .frameEnc _ _ => (.op, 0x3)
  | .frameDec _ _ => (.op, 0x4)
  | .envWrap _ => (.op, 0x5)
  | .envUnwrap => (.op, 0x6)
  | .msgHostToModule _ => (.msgType, 0x05)
  | .msgModuleToHost03 _ => (.msgType, 0x03)
  | .msgModuleToHost07 _ => (.msgType, 0x07)
  | .frameCfgRead _ => (.frameOpcode, 0x80)
  | .frameCfgWrite _ => (.frameOpcode, 0x81)
  | .frameSevError _ => (.frameOpcode, 0x88)
  | .frameSevWarning _ => (.frameOpcode, 0x89)
  | .frameSevInfo _ => (.frameOpcode, 0x8A)
  | .frameErrAck _ => (.frameOpcode, 0x8B)
  | .frameStop _ => (.frameOpcode, 0x91)
  | .frameReference _ => (.frameOpcode, 0x92)
  | .framePosReached _ => (.frameOpcode, 0x94)
  | .frameStatus _ => (.frameOpcode, 0x95)
  | .frameErrDetail _ => (.frameOpcode, 0x96)
  | .frameTargetA0 _ => (.frameOpcode, 0xA0)
  | .frameTargetA1 _ => (.frameOpcode, 0xA1)
  | .frameTargetA2 _ => (.frameOpcode, 0xA2)
  | .frameTargetA3 _ => (.frameOpcode, 0xA3)
  | .frameTargetA4 _ => (.frameOpcode, 0xA4)
  | .frameMoveAbs _ => (.frameOpcode, 0xB0)
  | .frameMoveB1 _ => (.frameOpcode, 0xB1)
  | .frameMoveB8 _ => (.frameOpcode, 0xB8)
  | .frameMoveB9 _ => (.frameOpcode, 0xB9)
  | .frameReboot _ => (.frameOpcode, 0xE0)
  | .frameUserLevel _ => (.frameOpcode, 0xE3)
  | .frameCommTestE4 _ => (.frameOpcode, 0xE4)
  | .frameCommTestE5 _ => (.frameOpcode, 0xE5)
  | .frameNotifyToggle _ => (.frameOpcode, 0xE7)

/-- The encoder writes the row's value where the row's format has it. -/
def RowKey.Statement (i : Instr) : Prop := requestKey (encode i) = some (rowKey i)

theorem RowKey.crcLoad (v : Word) : RowKey.Statement (.crcLoad v) := rfl
theorem RowKey.crcStep (b : Byte) : RowKey.Statement (.crcStep b) := rfl
theorem RowKey.crcRead : RowKey.Statement (.crcRead) := rfl
theorem RowKey.frameEnc (opcode : Byte) (payload : List Byte) : RowKey.Statement (.frameEnc opcode payload) := rfl
theorem RowKey.frameDec (expected : Byte) (buf : List Byte) : RowKey.Statement (.frameDec expected buf) := rfl
theorem RowKey.envWrap (frame : List Byte) : RowKey.Statement (.envWrap frame) := rfl
theorem RowKey.envUnwrap : RowKey.Statement (.envUnwrap) := rfl
theorem RowKey.msgHostToModule (u : HostMessageUse) : RowKey.Statement (.msgHostToModule u) := by cases u <;> rfl
theorem RowKey.msgModuleToHost03 (e : Envelope) : RowKey.Statement (.msgModuleToHost03 e) := rfl
theorem RowKey.msgModuleToHost07 (e : Envelope) : RowKey.Statement (.msgModuleToHost07 e) := rfl
theorem RowKey.frameCfgRead (u : FrameUse) : RowKey.Statement (.frameCfgRead u) := by cases u <;> rfl
theorem RowKey.frameCfgWrite (u : FrameUse) : RowKey.Statement (.frameCfgWrite u) := by cases u <;> rfl
theorem RowKey.frameSevError (u : FrameUse) : RowKey.Statement (.frameSevError u) := by cases u <;> rfl
theorem RowKey.frameSevWarning (u : FrameUse) : RowKey.Statement (.frameSevWarning u) := by cases u <;> rfl
theorem RowKey.frameSevInfo (u : FrameUse) : RowKey.Statement (.frameSevInfo u) := by cases u <;> rfl
theorem RowKey.frameErrAck (u : FrameUse) : RowKey.Statement (.frameErrAck u) := by cases u <;> rfl
theorem RowKey.frameStop (u : FrameUse) : RowKey.Statement (.frameStop u) := by cases u <;> rfl
theorem RowKey.frameReference (u : FrameUse) : RowKey.Statement (.frameReference u) := by cases u <;> rfl
theorem RowKey.framePosReached (u : FrameUse) : RowKey.Statement (.framePosReached u) := by cases u <;> rfl
theorem RowKey.frameStatus (u : FrameUse) : RowKey.Statement (.frameStatus u) := by cases u <;> rfl
theorem RowKey.frameErrDetail (u : FrameUse) : RowKey.Statement (.frameErrDetail u) := by cases u <;> rfl
theorem RowKey.frameTargetA0 (u : FrameUse) : RowKey.Statement (.frameTargetA0 u) := by cases u <;> rfl
theorem RowKey.frameTargetA1 (u : FrameUse) : RowKey.Statement (.frameTargetA1 u) := by cases u <;> rfl
theorem RowKey.frameTargetA2 (u : FrameUse) : RowKey.Statement (.frameTargetA2 u) := by cases u <;> rfl
theorem RowKey.frameTargetA3 (u : FrameUse) : RowKey.Statement (.frameTargetA3 u) := by cases u <;> rfl
theorem RowKey.frameTargetA4 (u : FrameUse) : RowKey.Statement (.frameTargetA4 u) := by cases u <;> rfl
theorem RowKey.frameMoveAbs (u : FrameUse) : RowKey.Statement (.frameMoveAbs u) := by cases u <;> rfl
theorem RowKey.frameMoveB1 (u : FrameUse) : RowKey.Statement (.frameMoveB1 u) := by cases u <;> rfl
theorem RowKey.frameMoveB8 (u : FrameUse) : RowKey.Statement (.frameMoveB8 u) := by cases u <;> rfl
theorem RowKey.frameMoveB9 (u : FrameUse) : RowKey.Statement (.frameMoveB9 u) := by cases u <;> rfl
theorem RowKey.frameReboot (u : FrameUse) : RowKey.Statement (.frameReboot u) := by cases u <;> rfl
theorem RowKey.frameUserLevel (u : FrameUse) : RowKey.Statement (.frameUserLevel u) := by cases u <;> rfl
theorem RowKey.frameCommTestE4 (u : FrameUse) : RowKey.Statement (.frameCommTestE4 u) := by cases u <;> rfl
theorem RowKey.frameCommTestE5 (u : FrameUse) : RowKey.Statement (.frameCommTestE5 u) := by cases u <;> rfl
theorem RowKey.frameNotifyToggle (u : FrameUse) : RowKey.Statement (.frameNotifyToggle u) := by cases u <;> rfl

end Sys2Proof.Laws
end

