-- ==== Sys2Proof/Laws/Pseudo.lean ====
section
/-! SUPPORT. Sequences of operations (30_encoding.md R74). -/

namespace Sys2Proof.Machine

/-- A sequence in two parts. -/
theorem execSeq_append {a b : List Instr} {s t : State} (h : execSeq a s = .next t) :
    execSeq (a ++ b) s = execSeq b t := by
  induction a generalizing s with
  | nil =>
    cases h
    rfl
  | cons i a ih =>
    simp only [List.cons_append, execSeq] at h ⊢
    cases hu : exec i s with
    | next u => rw [hu] at h; exact ih h
    | fault f => rw [hu] at h; cases h
    | refused r => rw [hu] at h; cases h

/-- A run of CRC_STEPs computes `checksum_from` the accumulator it started with (R91, R93). -/
theorem execSeq_crcSteps (bytes : List Byte) {s : State} (h : s.busy = none) :
    execSeq (bytes.map .crcStep) s = .next { s with
      acc := checksumFrom s.table s.acc bytes,
      outcomes := s.outcomes ++ List.replicate bytes.length (.ok .unit) } := by
  induction bytes generalizing s with
  | nil => simp [execSeq, checksumFrom]
  | cons b bs ih =>
    simp only [List.map_cons, execSeq, exec, execCrcStep, State.begin_idle h]
    rw [ih rfl]
    simp [State.finish, State.setAcc, checksumFrom, List.replicate_succ, ← h]

/-- The wait is over when no operation is in progress. -/
@[simp] theorem settle_idle (patience : Nat) {s : State} (h : s.busy = none) : settle patience s = .next s := by
  cases patience <;> simp [settle, h]

/-- One watched step. -/
theorem settle_step (patience : Nat) {s t : State} (hb : s.busy ≠ none) (h : step s = .next t) :
    settle (patience + 1) s = settle patience t := by
  simp [settle, h, Option.isNone_iff_eq_none, hb]

end Sys2Proof.Machine
end

