-- ==== Sys2Proof/Tests/Slice0.lean ====
section
/-! SUPPORT. Tests: well-formedness, requests written out from the spec's layouts, vectors of 95_test_vectors.md (named in
each comment), and for each statement that has hypotheses a concrete case that meets them. Vectors "under TABLE_ARC" run
on a state that has the candidate table. -/

namespace Sys2Proof.Machine.Tests

open Sys2Proof Sys2Proof.Machine

/-! ## Helpers -/

/-- An idle engine with the candidate table, address 0x01, an open channel and room for 300 bytes. -/
def demo (rx : List RxItem) : State :=
  { State.reset with table := Config.tableArc, moduleAddr := 0x01, rx := rx, writeAnswers := [300] }

/-- The same with another accumulator. -/
def demoAcc (v : Word) : State := { demo [] with acc := v }

/-- The same with other answers of the transport. -/
def demoRoom (answers : List Nat) : State := { demo [] with writeAnswers := answers }

/-- The same with acts of the world outside. -/
def demoEvents (events : List Event) : State := { demo [] with events := events }

/-- The same with an operation in progress and no input for it. -/
def demoBusy (b : Busy) (events : List Event) : State :=
  { demo [] with busy := some b, events := events, writeAnswers := [] }

/-- The answer is a next state of which the test holds. -/
def endsIn (o : Host.Outcome State Fault Refusal) (p : State → Bool) : Bool :=
  match o with
  | .next t => p t
  | .fault _ => false
  | .refused _ => false

/-- What `endsIn` says. -/
theorem endsIn_spec {o : Host.Outcome State Fault Refusal} {p : State → Bool} (h : endsIn o p = true) :
    ∃ t, o = .next t ∧ p t = true := by
  cases o with
  | next t => exact ⟨t, rfl, h⟩
  | fault f => cases h
  | refused r => cases h

/-- The operation has ended, with this outcome last, this left on `RX` and this on `TX`. -/
def gives (o : OpOutcome) (rx : List RxItem) (tx : List Byte) (t : State) : Bool :=
  t.busy == none && t.outcomes == [o] && t.rx == rx && t.tx == tx

/-- A table whose entry `i` has high byte `i`. -/
def plainTable : Vector Word 256 := Vector.ofFn fun i => mk16 0x00 (BitVec.ofNat 8 i)

/-! ## Well-formedness: an ill-formed term for each check, and a well-formed one beside it -/

theorem test_wf_frame_length : (Instr.frameStop (.decode 0x91 0x03 [0x4F])).wf = false ∧
    (Instr.frameStop (.decode 0x91 0x02 [0x4F])).wf = true := by decide

theorem test_wf_envelope_body : (Instr.msgModuleToHost03 ⟨0x01, 0x02, [0x92], 0x00, 0x00⟩).wf = false ∧
    (Instr.msgModuleToHost07 ⟨0x01, 0x00, [0x92], 0x00, 0x00⟩).wf = false ∧
    (Instr.msgHostToModule (.receive ⟨0x01, 0x01, [], 0x00, 0x00⟩)).wf = false ∧
    (Instr.msgModuleToHost03 ⟨0x01, 0x01, [0x92], 0x00, 0x00⟩).wf = true := by decide

/-! ## Decoding: requests written from R61 to R63, R68, R70, R71 -/

/-- R71, the column `opsel` of each row. -/
theorem test_decode_operations :
    decode (.op 0x0 0x1234 0x00 []) = .ok (.crcLoad 0x1234) ∧
    decode (.op 0x1 0x0000 0x56 []) = .ok (.crcStep 0x56) ∧
    decode (.op 0x2 0x0000 0x00 []) = .ok .crcRead ∧
    decode (.op 0x3 0x0000 0xB0 [0x00, 0x00, 0x20, 0x41]) = .ok (.frameEnc 0xB0 [0x00, 0x00, 0x20, 0x41]) ∧
    decode (.op 0x4 0x0000 0x92 [0x03, 0x92, 0x4F, 0x4B]) = .ok (.frameDec 0x92 [0x03, 0x92, 0x4F, 0x4B]) ∧
    decode (.op 0x5 0x0000 0x00 [0x01, 0x92]) = .ok (.envWrap [0x01, 0x92]) ∧
    decode (.op 0x6 0x0000 0x00 []) = .ok .envUnwrap ∧
    decode (.op 0x7 0x0000 0x00 []) = .error (.reservedOpsel 0x7) ∧
    decode (.op 0xF 0x0000 0x00 []) = .error (.reservedOpsel 0xF) := by decide

/-- R62, R63, R68: the envelopes of V-WRAP-1, V-UNW-14, V-UNW-2 and V-UNW-7, and what is not a listed envelope. -/
theorem test_decode_envelopes :
    decode (.send 0x05 [0x01, 0x92]) = .ok (.msgHostToModule (.wrap [0x01, 0x92])) ∧
    decode (.receive [0x05, 0x01, 0x01, 0x92, 0xD1, 0x31]) =
      .ok (.msgHostToModule (.receive ⟨0x01, 0x01, [0x92], 0xD1, 0x31⟩)) ∧
    decode (.receive [0x03, 0x01, 0x03, 0x92, 0x4F, 0x4B, 0xE8, 0x5D]) =
      .ok (.msgModuleToHost03 ⟨0x01, 0x03, [0x92, 0x4F, 0x4B], 0xE8, 0x5D⟩) ∧
    decode (.receive [0x07, 0x01, 0x00, 0xB0, 0x51]) = .ok (.msgModuleToHost07 ⟨0x01, 0x00, [], 0xB0, 0x51⟩) ∧
    decode (.send 0x03 []) = .error (.notASentMsgType 0x03) ∧
    decode (.receive [0x06, 0x01, 0x00, 0xB0, 0x51]) = .error (.notAListedEnvelope [0x06, 0x01, 0x00, 0xB0, 0x51]) ∧
    decode (.receive [0x07, 0x01]) = .error (.notAListedEnvelope [0x07, 0x01]) := by decide

/-- R70, the rows 0x80 to 0x96. -/
theorem test_decode_opcodes_80_to_96 :
    decode (.command 0x80 [0x01]) = .ok (.frameCfgRead (.encode [0x01])) ∧
    decode (.command 0x81 [0x01]) = .ok (.frameCfgWrite (.encode [0x01])) ∧
    decode (.response 0x92 [0x02, 0x88, 0xD9]) = .ok (.frameSevError (.decode 0x92 0x02 [0xD9])) ∧
    decode (.response 0xB0 [0x02, 0x89, 0x10]) = .ok (.frameSevWarning (.decode 0xB0 0x02 [0x10])) ∧
    decode (.response 0xB0 [0x02, 0x8A, 0x08]) = .ok (.frameSevInfo (.decode 0xB0 0x02 [0x08])) ∧
    decode (.command 0x8B []) = .ok (.frameErrAck (.encode [])) ∧
    decode (.command 0x91 []) = .ok (.frameStop (.encode [])) ∧
    decode (.response 0x92 [0x03, 0x92, 0x4F, 0x4B]) = .ok (.frameReference (.decode 0x92 0x03 [0x4F, 0x4B])) ∧
    decode (.response 0x94 [0x05, 0x94, 0x00, 0x00, 0x20, 0x41]) =
      .ok (.framePosReached (.decode 0x94 0x05 [0x00, 0x00, 0x20, 0x41])) ∧
    decode (.command 0x95 []) = .ok (.frameStatus (.encode [])) ∧
    decode (.command 0x96 []) = .ok (.frameErrDetail (.encode [])) := by decide

/-- R70, the rows 0xA0 to 0xE7. -/
theorem test_decode_opcodes_A0_to_E7 :
    decode (.command 0xA0 []) = .ok (.frameTargetA0 (.encode [])) ∧
    decode (.command 0xA1 []) = .ok (.frameTargetA1 (.encode [])) ∧
    decode (.command 0xA2 []) = .ok (.frameTargetA2 (.encode [])) ∧
    decode (.command 0xA3 []) = .ok (.frameTargetA3 (.encode [])) ∧
    decode (.command 0xA4 []) = .ok (.frameTargetA4 (.encode [])) ∧
    decode (.command 0xB0 [0x00, 0x00, 0x20, 0x41]) = .ok (.frameMoveAbs (.encode [0x00, 0x00, 0x20, 0x41])) ∧
    decode (.command 0xB1 []) = .ok (.frameMoveB1 (.encode [])) ∧
    decode (.command 0xB8 []) = .ok (.frameMoveB8 (.encode [])) ∧
    decode (.command 0xB9 []) = .ok (.frameMoveB9 (.encode [])) ∧
    decode (.command 0xE0 []) = .ok (.frameReboot (.encode [])) ∧
    decode (.command 0xE3 []) = .ok (.frameUserLevel (.encode [])) ∧
    decode (.command 0xE4 []) = .ok (.frameCommTestE4 (.encode [])) ∧
    decode (.command 0xE5 []) = .ok (.frameCommTestE5 (.encode [])) ∧
    decode (.command 0xE7 [0x01]) = .ok (.frameNotifyToggle (.encode [0x01])) := by decide

/-- An opcode the source does not list is FRAME_ENC or FRAME_DEC (R70); a buffer that is no frame is FRAME_DEC (R112). -/
theorem test_decode_unlisted :
    decode (.command 0x00 []) = .ok (.frameEnc 0x00 []) ∧ decode (.response 0x00 [0x01, 0x00]) = .ok (.frameDec 0x00 [0x01, 0x00]) ∧
    decode (.response 0x92 [0x03, 0x88, 0xD9]) = .ok (.frameDec 0x92 [0x03, 0x88, 0xD9]) ∧
    decode (.response 0x92 []) = .ok (.frameDec 0x92 []) := by decide

/-- Words of the opcode table, every operand zero or empty. -/
theorem test_decode_table_words :
    decodeTableWord 8 0x01 = some (.crcStep 0x00) ∧ decodeTableWord 4 0x06 = some .envUnwrap ∧
    decodeTableWord 8 0x91 = some (.frameStop (.encode [])) ∧
    decodeTableWord 8 0x07 = some (.msgModuleToHost07 ⟨0x00, 0x00, [], 0x00, 0x00⟩) ∧
    decodeTableWord 8 0x08 = none := by decide

/-! ## The checksum engine -/

/-- V-CRC-4. -/
theorem test_crcLoad : endsIn (exec (.crcLoad 0x1234) (demo [])) (fun t => t.acc == 0x1234) = true := by decide +kernel

/-- V-CRC-13 (index 0x34 ^ 0x56 = 0x62) and V-CRC-17. -/
theorem test_crcStep :
    endsIn (exec (.crcStep 0x56) (demoAcc 0x1234)) (fun t => t.acc == 0xE993) = true ∧
    endsIn (exec (.crcStep 0x80) (demoAcc 0x8000)) (fun t => t.acc == 0xA081) = true := by decide +kernel

/-- V-CRC-14, V-CRC-15, V-CRC-16. -/
theorem test_crcStep_edges :
    endsIn (exec (.crcStep 0x00) (demoAcc 0xFFFF)) (fun t => t.acc == 0x40BF) = true ∧
    endsIn (exec (.crcStep 0xFF) (demoAcc 0xFFFF)) (fun t => t.acc == 0x00FF) = true ∧
    endsIn (exec (.crcStep 0x00) (demoAcc 0x0100)) (fun t => t.acc == 0x0001) = true := by decide +kernel

/-- V-CRC-5. -/
theorem test_crcRead :
    endsIn (exec .crcRead (demoAcc 0xABCD)) (fun t => gives (.ok (.word 0xABCD)) [] [] t && t.acc == 0xABCD) = true := by
  decide +kernel

/-- V-CRC-11 and V-CRC-12. -/
theorem test_checksum : checksum Config.tableArc [0xFF, 0xFF] = 0xB001 ∧ checksum Config.tableArc [0x01, 0x92] = 0x3D80 ∧
    checksum Config.tableArc [0x05, 0x01] = 0x90C2 ∧ checksumFrom Config.tableArc 0x90C2 [0x01, 0x92] = 0x31D1 := by
  decide +kernel

/-! ## The frame codec -/

/-- V-ENC-2 and V-ENC-5. -/
theorem test_frameEnc : frameEncOutcome 0xB0 [0x00, 0x00, 0x20, 0x41] = .ok (.bytes [0x05, 0xB0, 0x00, 0x00, 0x20, 0x41]) ∧
    frameEncOutcome 0xFF [0xFF] = .ok (.bytes [0x02, 0xFF, 0xFF]) := by decide

/-- V-ENC-7 and V-ENC-8. -/
theorem test_frameEnc_limits :
    frameEncOutcome 0xB0 (List.replicate 254 0xAA) = .ok (.bytes (0xFF :: 0xB0 :: List.replicate 254 0xAA)) ∧
    frameEncOutcome 0xB0 (List.replicate 255 0xAA) = .fault (.lengthOverflow 255) := by decide +kernel

/-- V-DEC-2, V-DEC-5, V-DEC-7, V-DEC-10, V-DEC-19. -/
theorem test_frameDec : frameDecode 0x92 [0x00] = .fault (.frameError (.tooShort 1)) ∧
    frameDecode 0x92 [0x02, 0x92] = .fault (.frameError (.lengthMismatch 0x02 0)) ∧
    frameDecode 0x92 [0x03, 0x88, 0xD9] = .fault (.frameError (.lengthMismatch 0x03 1)) ∧
    frameDecode 0x92 [0x01, 0x88] = .fault (.unexpectedOpcode 0x92 0x88) ∧
    frameDecode 0x92 [0x03, 0x92, 0x4F, 0x4B] = .ok (.bytes [0x4F, 0x4B]) := by decide

/-- V-DEC-11 to V-DEC-15, V-DEC-20. -/
theorem test_frameDec_severity : frameDecode 0x92 [0x02, 0x88, 0xD9] = .deviceError .error 0xD9 0x88 ∧
    frameDecode 0xB0 [0x02, 0x89, 0x10] = .deviceError .warning 0x10 0x89 ∧
    frameDecode 0xB0 [0x02, 0x8A, 0x08] = .deviceError .info 0x08 0x8A ∧
    frameDecode 0xB0 [0x02, 0xB0, 0xD5] = .deviceError .error 0xD5 0xB0 ∧
    frameDecode 0x95 [0x02, 0x95, 0x00] = .deviceError .error 0x00 0x95 ∧
    frameDecode 0x88 [0x03, 0x88, 0xD9, 0x00] = .ok (.bytes [0xD9, 0x00]) := by decide

/-- S5, S2, S6: rows of R70 as operations. -/
theorem test_frame_rows :
    endsIn (exec (.frameStop (.encode [])) (demo [])) (gives (.ok (.bytes [0x01, 0x91])) [] []) = true ∧
    endsIn (exec (.frameReference (.decode 0x92 0x03 [0x4F, 0x4B])) (demo [])) (gives (.ok (.bytes [0x4F, 0x4B])) [] []) = true ∧
    endsIn (exec (.frameSevError (.decode 0x92 0x02 [0xD9])) (demo []))
      (gives (.deviceError .error 0xD9 0x88) [] []) = true := by decide +kernel

/-! ## The transport framer -/

/-- V-WRAP-1. -/
theorem test_envWrap : endsIn (exec (.envWrap [0x01, 0x92]) (demo []))
    (gives (.ok .unit) [] [0x05, 0x01, 0x01, 0x92, 0xD1, 0x31]) = true := by decide +kernel

/-- V-WRAP-11, V-WRAP-12. -/
theorem test_envWrap_short : endsIn (exec (.envWrap [0x01, 0x92]) (demoRoom [4]))
      (gives (.fault (.transportError (.shortWrite 4 6))) [] [0x05, 0x01, 0x01, 0x92]) = true ∧
    endsIn (exec (.envWrap [0x01, 0x92]) (demoRoom [0]))
      (gives (.fault (.transportError (.shortWrite 0 6))) [] []) = true := by decide +kernel

/-- V-WRAP-10 and V-WRAP-5. -/
theorem test_envWrap_limits : endsIn (exec (.envWrap (List.replicate 257 0x00)) (demo []))
      (gives (.fault (.lengthOverflow 257)) [] []) = true ∧
    envWrap Config.tableArc 0x01 [] = [0x05, 0x01, 0xC2, 0x90] := by decide +kernel

/-- V-UNW-1, V-UNW-7, V-UNW-19. -/
theorem test_envUnwrap :
    endsIn (exec .envUnwrap (demo (items [0x07, 0x01, 0x03, 0x92, 0x4F, 0x4B, 0xE9, 0xD9])))
      (gives (.ok (.bytes [0x03, 0x92, 0x4F, 0x4B])) [] []) = true ∧
    endsIn (exec .envUnwrap (demo (items [0x07, 0x01, 0x00, 0xB0, 0x51, 0x07])))
      (gives (.ok (.bytes [0x00])) [.byte 0x07] []) = true ∧
    endsIn (exec .envUnwrap (demo (items [0x07, 0x01, 0x03, 0x92, 0x4F, 0x4B, 0xE9, 0xD8])))
      (gives (.fault (.checksumError 0xD9E9 0xD8E9)) [] []) = true := by decide +kernel

/-- V-UNW-11, V-UNW-15, V-UNW-14, V-UNW-18. -/
theorem test_envUnwrap_faults :
    endsIn (exec .envUnwrap (demo [.byte 0x07, .byte 0x01, .endOfRead, .byte 0x03]))
      (gives (.fault (.transportError (.shortHeader 2))) [.byte 0x03] []) = true ∧
    endsIn (exec .envUnwrap (demo (items [0x05, 0x02, 0x01, 0x92])))
      (gives (.fault (.transportError (.badAddress 0x02))) (items [0x92]) []) = true ∧
    endsIn (exec .envUnwrap (demo (items [0x05, 0x01, 0x01, 0x92, 0xD1, 0x31])))
      (gives (.fault (.transportError (.badMsgType 0x05))) (items [0x92, 0xD1, 0x31]) []) = true ∧
    endsIn (exec .envUnwrap (demo (items [0x07, 0x01, 0x03, 0x92, 0x4F, 0x4B, 0xE9] ++ [.endOfRead])))
      (gives (.fault (.transportError (.shortBody 4 5))) [] []) = true := by decide +kernel

/-- V-UNW-24: it waits, with no outcome. -/
theorem test_envUnwrap_waits : endsIn (exec .envUnwrap (demo []))
    (fun t => t.busy == some (.header []) && t.outcomes == []) = true := by decide +kernel

/-- V-FLIP, bits 0 and 1 of the length byte. -/
theorem test_flip_length :
    endsIn (exec .envUnwrap (demo (items [0x07, 0x01, 0x02, 0x92, 0x4F, 0x4B, 0xE9, 0xD9] ++ [.endOfRead])))
      (gives (.fault (.checksumError 0x6839 0xE94B)) [.byte 0xD9, .endOfRead] []) = true ∧
    endsIn (exec .envUnwrap (demo (items [0x07, 0x01, 0x01, 0x92, 0x4F, 0x4B, 0xE9, 0xD9] ++ [.endOfRead])))
      (gives (.fault (.checksumError 0x89D0 0x4B4F)) [.byte 0xE9, .byte 0xD9, .endOfRead] []) = true := by decide +kernel

/-- V-UNW-2 and V-UNW-1 as rows of R68, and V-UNW-14. -/
theorem test_message_rows :
    endsIn (exec (.msgModuleToHost03 ⟨0x01, 0x03, [0x92, 0x4F, 0x4B], 0xE8, 0x5D⟩) (demo []))
      (gives (.ok (.bytes [0x03, 0x92, 0x4F, 0x4B])) [] []) = true ∧
    endsIn (exec (.msgModuleToHost07 ⟨0x01, 0x03, [0x92, 0x4F, 0x4B], 0xE9, 0xD9⟩) (demo []))
      (gives (.ok (.bytes [0x03, 0x92, 0x4F, 0x4B])) [] []) = true ∧
    endsIn (exec (.msgHostToModule (.receive ⟨0x01, 0x01, [0x92], 0xD1, 0x31⟩)) (demo []))
      (gives (.fault (.transportError (.badMsgType 0x05))) (items [0x92, 0xD1, 0x31]) []) = true := by decide +kernel

/-! ## Requests and reset -/

/-- V-OP-1 and V-OP-2. -/
theorem test_reserved_opsel :
    endsIn (step (demoEvents [.issue (.op 0x7 0 0 [])])) (gives (.fault (.illegalOperation 0x7)) [] []) = true ∧
    endsIn (step (demoEvents [.issue (.op 0xF 0 0 [])])) (gives (.fault (.illegalOperation 0xF)) [] []) = true := by
  decide +kernel

/-- V-RST-1. -/
theorem test_reset : endsIn (step { demoAcc 0x31D1 with
      rx := items [0x07, 0x01], tx := [0x05, 0x01, 0x01, 0x92, 0xD1, 0x31], events := [.reset 0] })
    (fun t => t.acc == 0x0000 && t.rx == items [0x07, 0x01] && t.tx == [0x05, 0x01, 0x01, 0x92, 0xD1, 0x31] &&
      t.busy == none && t.outcomes == []) = true := by decide +kernel

/-- The very next step runs the word of the table: S5 (the stop command `01 91`). -/
theorem test_withFetchWord : endsIn (step (State.reset.withFetchWord 8 0x91)) (gives (.ok (.bytes [0x01, 0x91])) [] []) = true := by
  decide +kernel

/-- R46, U8: a wait that ends when bytes arrive: the end of V-UNW-7. -/
theorem test_wait_then_arrive :
    endsIn (step { demo (items [0xB0, 0x51]) with busy := some (.body 0x07 0x01 0x00 []) })
      (gives (.ok (.bytes [0x00])) [] []) = true := by decide +kernel

/-! ## Each statement's hypotheses can be met together -/

theorem demo_ready (rx : List RxItem) : (demo rx).ready := ⟨rfl, rfl⟩
theorem demoRoom_ready (answers : List Nat) : (demoRoom answers).ready := ⟨rfl, rfl⟩

/-- For every statement that asks for an idle engine only: CrcLoadResult, CrcStepResult (last clause), CrcReadResult,
ChecksumPseudoOperation, ChecksumIncremental, FrameDecResult, LengthTwoIsDeviceError, ListedOpcodesTakeApart. -/
theorem test_witness_idle : State.reset.idle ∧ (demo []).idle ∧ (demoAcc 0xABCD).idle := ⟨rfl, rfl, rfl⟩

/-- ResetEffect: an idle engine; a waiting reception; one struck with items there, before a take, after the last (V-UNW-9)
and with no open channel; an ENV_WRAP with the answer not there and there. -/
theorem test_witness_ResetEffect :
    (demoEvents [.reset 0]).events = [.reset 0] ∧ (demoBusy (.header [0x07]) [.reset 0]).events = [.reset 0] ∧
    endsIn (step ((demoBusy (.header []) [.reset 0]).setRx [.endOfRead, .byte 0x07]))
      (fun t => t.busy == none && t.outcomes == [] && t.rx == [.endOfRead, .byte 0x07]) = true ∧
    endsIn (step ((demoBusy (.header []) [.reset 5]).setRx [.endOfRead, .byte 0x07]))
      (fun t => t.busy == none && t.outcomes == [] && t.rx == [.byte 0x07]) = true ∧
    endsIn (step ((demoBusy (.header []) []).setRx [.endOfRead, .byte 0x07])) (fun u => u.rx == [.byte 0x07]) = true ∧
    endsIn (step { demoBusy (.header []) [.reset 5] with rx := [.byte 0x07], channelOpen := false })
      (fun t => t.rx == [.byte 0x07]) = true ∧
    endsIn (step (demoBusy (.sending [0x05, 0x01, 0xC2, 0x90]) [.reset 3])) (fun t => t.tx == [0x05, 0x01, 0xC2]) = true ∧
    endsIn (step { demoBusy (.sending [0x05, 0x01, 0xC2, 0x90]) [.reset 3] with writeAnswers := [2, 9] })
      (fun t => t.tx == [0x05, 0x01] && t.writeAnswers == [9]) = true := by decide +kernel

theorem test_witness_ResetDuringOperation :
    ((demoEvents [.resetDuring (encode .envUnwrap) 2]).ready ∧
      endsIn (exec .envUnwrap { demoEvents [.resetDuring (encode .envUnwrap) 2] with events := [] }) (fun _ => true) = true) ∧
    (demoEvents [.resetDuring (encode (.envWrap (List.replicate 256 0x00))) 260]).ready ∧
      (demo []).writeAnswers = [300] ∧ (List.replicate 256 (0x00 : Byte)).length ≤ 256 :=
  ⟨⟨⟨rfl, rfl⟩, by decide +kernel⟩, ⟨rfl, rfl⟩, rfl, by decide +kernel⟩

theorem test_witness_CrcStepResult_zero : (demoAcc 0x0000).idle ∧ (demoAcc 0x0000).acc = 0x0000 := ⟨rfl, rfl⟩

theorem test_witness_ChecksumDependsOnTableAndBytesOnly :
    (demo []).idle ∧ ({ demoAcc 0xABCD with moduleAddr := 0x0B, rx := [.endOfRead] } : State).idle ∧
    (demo []).table = ({ demoAcc 0xABCD with moduleAddr := 0x0B, rx := [.endOfRead] } : State).table := ⟨rfl, rfl, rfl⟩

/-- FrameEncResult, EncodedFrameInvariant, FrameRoundTrip, TxCmdResult and ListedOpcodesAssemble at the longest payload and
one byte more. -/
theorem test_witness_payload_limit : (demo []).idle ∧ (List.replicate 254 (0xAA : Byte)).length ≤ 254 ∧
    (List.replicate 254 (0xAA : Byte)).length ≠ 1 ∧ 254 < (List.replicate 255 (0xAA : Byte)).length :=
  ⟨rfl, by decide +kernel, by decide +kernel, by decide +kernel⟩

theorem test_witness_FrameDecodeTestsInOrder :
    ([0x01] : List Byte).length < 2 ∧ (0x00 : Byte).toNat ≠ 1 + ([] : List Byte).length ∧
    ((0x02 : Byte).toNat = 1 + [(0xD9 : Byte)].length) ∧
    ((0x01 : Byte).toNat = 1 + ([] : List Byte).length ∧ (0x01 : Byte) ≠ 2 ∧ (0x88 : Byte) ≠ 0x92) ∧
    (0xFF : Byte).toNat = 1 + (List.replicate 254 (0x00 : Byte)).length ∧ (0xFF : Byte) ≠ 2 := by decide +kernel

theorem test_witness_SeveritySelection : (0x8B : Byte) ≠ 0x89 ∧ (0x8B : Byte) ≠ 0x8A ∧ (0x01 : Byte) ≠ 2 ∧
    (0x01 : Byte).toNat = 1 + ([] : List Byte).length ∧ (0xFF : Byte).toNat = 1 + (List.replicate 254 (0x00 : Byte)).length := by
  decide +kernel

/-- The payload lengths 0, 2 and 254. -/
theorem test_witness_LengthTwoIsDeviceError : frameDecode 0x92 [0x01, 0x92] = .ok (.bytes []) ∧
    frameDecode 0x92 [0x03, 0x92, 0x4F, 0x4B] = .ok (.bytes [0x4F, 0x4B]) ∧
    frameDecode 0x92 (0xFF :: 0x92 :: List.replicate 254 0x00) = .ok (.bytes (List.replicate 254 0x00)) := by decide +kernel

theorem test_witness_FrameRoundTrip : [(0x01 : Byte)].length ≤ 254 ∧ ([] : List Byte).length ≠ 1 ∧ (0x91 : Byte) ≠ 0x92 := by
  decide

/-- EnvWrapResult, TxCmdResult and HostMessageType: a frame of 257 bytes; one of 256 bytes with room for 260 and for 259. -/
theorem test_witness_EnvWrapResult : (demo []).ready ∧ 256 < (List.replicate 257 (0x00 : Byte)).length ∧
    ((demoRoom [260]).ready ∧ (demoRoom [260]).writeAnswers = [260] ∧ (List.replicate 256 (0x00 : Byte)).length ≤ 256 ∧
      (List.replicate 256 (0x00 : Byte)).length + 4 ≤ 260) ∧
    (demoRoom [259]).ready ∧ (demoRoom [259]).writeAnswers = [259] ∧ 259 < (List.replicate 256 (0x00 : Byte)).length + 4 :=
  ⟨⟨rfl, rfl⟩, by decide +kernel, ⟨⟨rfl, rfl⟩, rfl, by decide +kernel, by decide +kernel⟩, ⟨rfl, rfl⟩, rfl, by decide +kernel⟩

theorem test_witness_EnvWrapWaitsForAnswer : (demoRoom []).ready ∧ (demoRoom []).struck = false ∧ (demoRoom []).writeAnswers = [] ∧
    (List.replicate 256 (0x00 : Byte)).length ≤ 256 := ⟨⟨rfl, rfl⟩, rfl, rfl, by decide +kernel⟩

theorem test_witness_TxCmdResult : (demoRoom [260]).ready ∧ (demoRoom [260]).writeAnswers = [260] ∧
    (List.replicate 254 (0x00 : Byte)).length ≤ 254 ∧ (List.replicate 254 (0x00 : Byte)).length + 6 ≤ 260 :=
  ⟨⟨rfl, rfl⟩, rfl, by decide +kernel, by decide +kernel⟩

/-- The bodies of EnvelopeRoundTrip, EnvUnwrapReturnsFrame and ModuleMessageTypes: empty, and the longest. -/
theorem test_witness_EnvelopeRoundTrip : (demo []).ready ∧ ([] : List Byte).length = (0x00 : Byte).toNat ∧
    (List.replicate 255 (0x00 : Byte)).length = (0xFF : Byte).toNat := ⟨⟨rfl, rfl⟩, by decide +kernel, by decide +kernel⟩

/-- EnvUnwrapInFourPhases and EnvUnwrapWaits, phase HEADER. -/
theorem test_witness_phase_header : (demo []).ready ∧ ([] : List Byte).length < 3 ∧
    [(0x07 : Byte), 0x01].length < 3 := ⟨⟨rfl, rfl⟩, by decide +kernel, by decide +kernel⟩

/-- EnvUnwrapInFourPhases, phase VALIDATE. -/
theorem test_witness_phase_validate : (demo []).ready ∧ (0x02 : Byte) ≠ (demo []).moduleAddr ∧
    (0x01 : Byte) = (demo []).moduleAddr ∧ (0x05 : Byte) ≠ 0x03 ∧ (0x05 : Byte) ≠ 0x07 :=
  ⟨⟨rfl, rfl⟩, by decide +kernel, rfl, by decide +kernel, by decide +kernel⟩

/-- EnvUnwrapInFourPhases and EnvUnwrapWaits, phase BODY: a length byte of 0 and one of 255 with one trailer byte missing. -/
theorem test_witness_phase_body : (demo []).ready ∧ [(0xB0 : Byte)].length < (0x00 : Byte).toNat + 2 ∧
    (List.replicate 256 (0x00 : Byte)).length < (0xFF : Byte).toNat + 2 := ⟨⟨rfl, rfl⟩, by decide +kernel, by decide +kernel⟩

/-- EnvUnwrapInFourPhases, phase CHECK: V-UNW-23 and V-UNW-7. -/
theorem test_witness_phase_check : (demo []).ready ∧ ([] : List Byte).length = (0x00 : Byte).toNat ∧
    checksum (demo []).table ([0x07, 0x01, 0x00] ++ []) ≠ mk16 0x00 0x00 ∧
    checksum (demo []).table ([0x07, 0x01, 0x00] ++ []) = mk16 0xB0 0x51 :=
  ⟨⟨rfl, rfl⟩, by decide +kernel, by decide +kernel, by decide +kernel⟩

/-- EnvUnwrapReturnsFrame, EnvUnwrapTakesAtMostOneEnvelope, RxRspResult (the `Ok` and the `TooShort`): P6. -/
theorem test_witness_reception_ok :
    endsIn (exec .envUnwrap (demo (items [0x07, 0x01, 0x00, 0xB0, 0x51])))
      (fun t => t.busy == none && t.outcomes == (demo []).outcomes ++ [.ok (.bytes [0x00])]) = true ∧
    frameDecode 0x92 [0x00] = .fault (.frameError (.tooShort 1)) := ⟨by decide +kernel, by decide +kernel⟩

/-- RxRspResult and TransportFaultsAndDeviceErrorsApart, the fault. -/
theorem test_witness_reception_fault : endsIn (exec .envUnwrap (demo [.endOfRead]))
    (fun t => t.busy == none && t.outcomes == (demo []).outcomes ++ [.fault (.transportError (.shortHeader 0))]) = true := by
  decide +kernel

/-- The last clause of EnvUnwrapWaits: a waiting reception and a waiting ENV_WRAP. -/
theorem test_witness_EnvUnwrapWaits : ((demoBusy (.header []) []).busy = some (.header []) ∧
      canProceed (.header []) (demoBusy (.header []) []) = false ∧ (demoBusy (.header []) []).events = []) ∧
    (demoBusy (.sending [0x05, 0x01, 0xC2, 0x90]) []).busy = some (.sending [0x05, 0x01, 0xC2, 0x90]) ∧
    canProceed (.sending [0x05, 0x01, 0xC2, 0x90]) (demoBusy (.sending [0x05, 0x01, 0xC2, 0x90]) []) = false ∧
    (demoBusy (.sending [0x05, 0x01, 0xC2, 0x90]) []).events = [] := ⟨⟨rfl, rfl, rfl⟩, rfl, rfl, rfl⟩

theorem test_witness_ReceptionInPieces : (demo []).struck = false ∧ (demoBusy (.header []) []).struck = false ∧
    endsIn (exec .envUnwrap ((demo []).setRx [])) (fun t => t.busy != none) = true ∧
    endsIn (step ((demoBusy (.header []) []).setRx [.byte 0x07])) (fun t => t.busy != none) = true ∧
    endsIn (step ((demoBusy (.body 0x07 0x01 0x00 []) []).setRx [.byte 0xB0])) (fun t => t.busy != none) = true := by
  decide +kernel

theorem plainTable_read (i : Byte) : tableRead plainTable i = mk16 0x00 i := by
  simp [tableRead, plainTable]

theorem test_witness_OneByteChange : TableHighByteBijective plainTable ∧ DifferInOneByte [0x01, 0x92] [0x01, 0x93] := by
  have h : ∀ i : Byte, hi8 (mk16 0x00 i) = i := by decide +kernel
  refine ⟨?_, [0x01], 0x92, 0x93, [], by decide +kernel, rfl, rfl⟩
  unfold TableHighByteBijective
  simp only [plainTable_read, h]
  exact Function.bijective_id

/-- The cases (a) to (f) at bits 0 and 7, and bit 2 of the message type. -/
theorem test_witness_SingleBitFlipOutcomes : (demo []).ready ∧ [(0x92 : Byte), 0x4F, 0x4B].length = (0x03 : Byte).toNat ∧
    (0 < 8 ∧ 7 < 8) ∧ (0 ≠ 2 ∧ 7 ≠ 2) ∧ flipBit 0x07 2 = 0x03 ∧ (0x03 : Byte).toNat < (flipBit 0x03 7).toNat ∧
    (flipBit 0x03 0).toNat < (0x03 : Byte).toNat ∧ flipBit 0x4B 0 = 0x4A ∧ TableHighByteBijective plainTable :=
  ⟨⟨rfl, rfl⟩, by decide +kernel, by decide +kernel, by decide +kernel, by decide +kernel, by decide +kernel, by decide +kernel, by decide +kernel, test_witness_OneByteChange.1⟩

/-- The two envelopes of P3. -/
def twoEnvelopes : List (Byte × Byte × List Byte) :=
  [(0x07, 0x05, [0xB0, 0xCD, 0xCC, 0x04, 0x41]), (0x07, 0x05, [0x94, 0x00, 0x00, 0x20, 0x41])]

/-- The receive stream of P3 is what the statement writes. -/
theorem test_witness_SeveralReceptions : (demo []).ready ∧
    (∀ e ∈ twoEnvelopes, (e.1 = 0x03 ∨ e.1 = 0x07) ∧ e.2.2.length = e.2.1.toNat) ∧
    items [0x07, 0x01, 0x05, 0xB0, 0xCD, 0xCC, 0x04, 0x41, 0x2C, 0xCA, 0x07, 0x01, 0x05, 0x94, 0x00, 0x00, 0x20, 0x41, 0xB9, 0x5E] =
      items (twoEnvelopes.flatMap fun e => [e.1, (demo []).moduleAddr, e.2.1] ++ e.2.2 ++
        trailer (checksum (demo []).table ([e.1, (demo []).moduleAddr, e.2.1] ++ e.2.2))) ++ [] :=
  ⟨⟨rfl, rfl⟩, by decide +kernel, by decide +kernel⟩

theorem test_witness_ReservedOpsel : (demoEvents [.issue (.op 0x7 0 0 [])]).idle ∧ 7 ≤ (0x7 : BitVec 4).toNat ∧
    7 ≤ (0xF : BitVec 4).toNat := ⟨rfl, by decide +kernel, by decide +kernel⟩

/-- ExactlyOneOutcome, an operation in progress that goes on: to its end, and to the next wait. -/
theorem test_witness_ExactlyOneOutcome :
    canProceed (.header []) ((demoBusy (.header []) []).setRx [.endOfRead]) = true ∧
    endsIn (step ((demoBusy (.header []) []).setRx [.endOfRead])) (fun t => t.busy == none) = true ∧
    endsIn (step ((demoBusy (.header []) []).setRx [.byte 0x07])) (fun t => t.busy != none) = true := by decide +kernel

/-- RemovalInsideReception: the third byte of a header removed after two takes, in an operation just issued and in one in
progress. -/
theorem test_witness_RemovalInsideReception :
    (endsIn (exec .envUnwrap ((demo []).setRx (items [0x07, 0x01]))) (fun t => t.busy != none) = true ∧
      endsIn (step { demoEvents [.discardDuring (encode .envUnwrap) 2 1] with rx := items [0x07, 0x01, 0x03, 0x00] })
        (fun u => u.busy == some (.header [0x07, 0x01]) && u.rx == [.byte 0x00]) = true) ∧
    endsIn (step { demoBusy (.header [0x07]) [] with rx := [.byte 0x01] }) (fun t => t.busy != none) = true ∧
    endsIn (step { demoBusy (.header [0x07]) [.discard 1 1] with rx := items [0x01, 0x03, 0x00] })
      (fun u => u.busy == some (.header [0x07, 0x01]) && u.rx == [.byte 0x00]) = true := by decide +kernel

/-- RxRspResult and RxRspAcrossAWait: V-UNW-1 in two pieces; after the wait FRAME_DEC is issued. -/
theorem test_witness_RxRspAcrossAWait :
    endsIn (exec .envUnwrap { demoEvents [.arrive (items [0x4F, 0x4B, 0xE9, 0xD9])] with rx := items [0x07, 0x01, 0x03, 0x92] })
      (fun t => t.busy != none && endsIn (settle 2 t) (fun u => u.outcomes == [.ok (.bytes [0x03, 0x92, 0x4F, 0x4B])])) = true ∧
    endsIn (exec .envUnwrap (demo (items [0x07, 0x01, 0x03, 0x92, 0x4F, 0x4B, 0xE9, 0xD9]))) (fun u => u.busy == none) = true ∧
    endsIn (rxRsp 2 0x92 { demoEvents [.arrive (items [0x4F, 0x4B, 0xE9, 0xD9])] with rx := items [0x07, 0x01, 0x03, 0x92] })
      (fun t => t.outcomes == [.ok (.bytes [0x03, 0x92, 0x4F, 0x4B]), .ok (.bytes [0x4F, 0x4B])]) = true := by decide +kernel

/-- RxRspResult with no outcome: the wait goes on, and reset ends it. -/
theorem test_witness_RxRspResult_none :
    endsIn (rxRsp 1 0x92 (demo [])) (fun u => u.busy != none && u.outcomes == []) = true ∧
    endsIn (rxRsp 1 0x92 (demoEvents [.reset 0])) (fun u => u.busy == none && u.outcomes == []) = true := by decide +kernel

/-- OutsideActs: an idle engine and one that waits. -/
theorem test_witness_OutsideActs :
    ((demoEvents [.closeChannel]).events = [.closeChannel] ∧ (demoEvents [.closeChannel]).busy = none) ∧
    (demoBusy (.header []) [.arrive [.byte 0x07]]).events = [.arrive [.byte 0x07]] ∧
    canProceed (.header []) (demoBusy (.header []) [.arrive [.byte 0x07]]) = false := ⟨⟨rfl, rfl⟩, rfl, rfl⟩

theorem test_witness_NoSecondOperation : (demoBusy (.header []) []).busy = some (.header []) := rfl

theorem test_witness_OnlyChannelOperationsNeedTheChannel :
    ({ demo [] with channelOpen := false } : State).idle ∧ channelUse .crcRead = .untouched ∧
    channelUse .envUnwrap ≠ .untouched := ⟨rfl, rfl, by decide +kernel⟩

/-- ExactlyOneOutcome, OutcomesAreNotReadBack, StreamsOnlyByTheFramer, WhoWritesWhat: an instruction of each channel use that
gives a next state. -/
theorem test_witness_exec_next :
    endsIn (exec (.crcLoad 0x1234) (demo [])) (fun t => t.acc != (demo []).acc) = true ∧
    (endsIn (exec (.envWrap [0x01, 0x92]) (demo [])) (fun _ => true) = true ∧ channelUse (.envWrap [0x01, 0x92]) = .put [0x01, 0x92]) ∧
    endsIn (exec .envUnwrap (demo [])) (fun t => t.busy != none) = true ∧ channelUse .envUnwrap = .take [] := by decide +kernel

/-- TransportFaultsAndDeviceErrorsApart, the device error and the checksum error. -/
theorem test_witness_faults_apart :
    endsIn (exec (.frameDec 0x92 [0x02, 0x88, 0xD9]) (demo []))
      (fun t => t.outcomes == (demo []).outcomes ++ [.deviceError .error 0xD9 0x88]) = true ∧
    endsIn (exec .envUnwrap (demo (items [0x07, 0x01, 0x00, 0x00, 0x00])))
      (fun t => t.outcomes == (demo []).outcomes ++ [.fault (.checksumError 0x51B0 0x0000)]) = true := by decide +kernel

/-- StepKeepsParameters, StepOnlyAppends, StepKeepsSound: a sound state that has a next state. -/
theorem test_witness_StepKeepsSound : State.reset.sound ∧ step State.reset = .next State.reset :=
  ⟨⟨trivial, [], rfl, fun _ h => absurd h List.not_mem_nil⟩, rfl⟩

theorem test_witness_StepRunsTheDecodedInstruction :
    (demoEvents [.issue (.command 0x91 [])]).idle ∧ decode (.command 0x91 []) = .ok (.frameStop (.encode [])) ∧
    decodeTableWord 8 0x91 = some (.frameStop (.encode [])) := ⟨rfl, rfl, rfl⟩

theorem test_witness_OpselTable : 7 ≤ (0x7 : BitVec 4).toNat := by decide +kernel

theorem test_witness_DecodeEncodeAgree : (Instr.msgModuleToHost07 ⟨0x01, 0x00, [], 0xB0, 0x51⟩).wf = true ∧
    (Instr.frameSevError (.decode 0x92 0x02 [0xD9])).wf = true ∧
    decode (.receive [0x07, 0x01, 0x00, 0xB0, 0x51]) = .ok (.msgModuleToHost07 ⟨0x01, 0x00, [], 0xB0, 0x51⟩) := by decide +kernel

theorem test_witness_ListedOpcodes : (0x91, Instr.frameStop) ∈ frameRows := by simp [frameRows]

/-- V-UNW-2 and V-UNW-1. -/
theorem test_witness_ModuleMessageTypes : (demo []).ready ∧ (demo []).rx = [] ∧ (0x01 : Byte) = (demo []).moduleAddr ∧
    mk16 0xE8 0x5D = checksum (demo []).table ([0x03, 0x01, 0x03] ++ [0x92, 0x4F, 0x4B]) ∧
    mk16 0xE9 0xD9 = checksum (demo []).table ([0x07, 0x01, 0x03] ++ [0x92, 0x4F, 0x4B]) :=
  ⟨⟨rfl, rfl⟩, rfl, rfl, by decide +kernel, by decide +kernel⟩

end Sys2Proof.Machine.Tests
end

/-! PROOFS. What an opcode byte means in a received frame (30_encoding.md R69, 41_frame_codec.md R112 and R114). -/

namespace Sys2Proof.Machine

/-- R114: only 0x89 and 0x8A select another severity than ERROR; 0x88 selects what every other value selects. -/
theorem severityOf_eq_error {opcode : Byte} (hw : opcode ≠ 0x89) (hi : opcode ≠ 0x8A) : severityOf opcode = .error := by
  unfold severityOf
  split
  · rfl
  · rw [if_neg (show opcode ≠ sevWarningOpcode from hw), if_neg (show opcode ≠ sevInfoOpcode from hi)]

/-- R112, test 3: length byte 2 makes the frame a device error before the expected opcode is looked at. -/
theorem frameDecode_length_two (expected opcode code : Byte) :
    frameDecode expected [0x02, opcode, code] = .deviceError (severityOf opcode) code opcode := rfl

/-- R112, tests 4 and 5: past the tests on the length byte, the opcode is only compared with the expected one. -/
theorem frameDecode_length_ne_two {length : Byte} {payload : List Byte} (hne : length ≠ errorFrameLength)
    (hlen : length.toNat = 1 + payload.length) (expected opcode : Byte) :
    frameDecode expected (length :: opcode :: payload) =
      if opcode = expected then .ok (.bytes payload) else .fault (.unexpectedOpcode expected opcode) := by
  rw [frameDecode, if_neg (not_not_intro hlen), if_neg hne, ite_not]

/-- Settles O17: a frame of length byte 2 is decoded by `severityOf` alone, one of any other length byte by the
comparison with the expected opcode alone. -/
theorem severitySelection : Obligations.SeveritySelection := by
  refine ⟨fun expected code => ⟨?error, ?warning, ?info⟩, fun expected opcode code hw hi => ?other,
    fun expected length opcode payload hne hlen => ?compared⟩
  case error => rw [frameDecode_length_two, severityOf_eq_error (by decide) (by decide)]
  case warning => rw [frameDecode_length_two, show severityOf 0x89 = .warning by decide]
  case info => rw [frameDecode_length_two, show severityOf 0x8A = .info by decide]
  case other => rw [frameDecode_length_two, severityOf_eq_error hw hi]
  case compared => exact frameDecode_length_ne_two hne hlen expected opcode

end Sys2Proof.Machine

/-! PROOFS. The step of the checksum by halves, and the incremental law of a checksum (40_checksum.md R90, R91, R97, R98). -/

namespace Sys2Proof.Machine

@[simp] theorem hi8_xor (v w : Word) : hi8 (v ^^^ w) = hi8 v ^^^ hi8 w := by
  simp [hi8, BitVec.ushiftRight_xor_distrib]

@[simp] theorem lo8_xor (v w : Word) : lo8 (v ^^^ w) = lo8 v ^^^ lo8 w := BitVec.setWidth_xor

@[simp] theorem hi8_zext (b : Byte) : hi8 (b.setWidth 16) = 0#8 := by
  unfold hi8
  bv_omega

@[simp] theorem lo8_zext (b : Byte) : lo8 (b.setWidth 16) = b :=
  BitVec.setWidth_setWidth_of_le b (by decide)

/-- The old high byte, zero-extended, leaves the high byte of the entry alone. -/
theorem hi8_crcStep (table : Vector Word 256) (acc : Word) (b : Byte) :
    hi8 (crcStep table acc b) = hi8 (tableRead table (crcIndex acc b)) := by
  rw [crcStep, hi8_xor, hi8_zext, BitVec.zero_xor]

/-- The low byte of the entry is changed by the old high byte. -/
theorem lo8_crcStep (table : Vector Word 256) (acc : Word) (b : Byte) :
    lo8 (crcStep table acc b) = lo8 (tableRead table (crcIndex acc b)) ^^^ hi8 acc := by
  rw [crcStep, lo8_xor, lo8_zext, BitVec.xor_comm]

/-- Settles O4: the formula is the definition of the step, and the two halves are those of an exclusive-or. -/
theorem crcStepFunction : Obligations.CrcStepFunction := fun table acc b =>
  ⟨rfl, hi8_crcStep table acc b, lo8_crcStep table acc b⟩

/-- The recurrence over two sequences goes on where it stopped after the first (R91). -/
theorem checksumFrom_append (table : Vector Word 256) (acc : Word) (a b : List Byte) :
    checksumFrom table acc (a ++ b) = checksumFrom table (checksumFrom table acc a) b := by
  induction a generalizing acc with
  | nil => rfl
  | cons x a ih => exact ih (crcStep table acc x)

theorem checksum_append (table : Vector Word 256) (a b : List Byte) :
    checksum table (a ++ b) = checksumFrom table (checksum table a) b :=
  checksumFrom_append table accInit a b

/-- CRC_STEPs and CRC_READ behind them (R93, R94): the host gets the accumulator that the steps leave. -/
theorem execSeq_crcSteps_crcRead (bytes : List Byte) {s : State} (h : s.busy = none) :
    execSeq (bytes.map .crcStep ++ [.crcRead]) s = .next { s with
      acc := checksumFrom s.table s.acc bytes,
      outcomes := s.outcomes ++
        (List.replicate bytes.length (.ok .unit) ++ [.ok (.word (checksumFrom s.table s.acc bytes))]) } := by
  rw [execSeq_append (execSeq_crcSteps bytes h)]
  simp [execSeq, exec, execCrcRead, h, State.finish]

/-- The same behind a CRC_LOAD (R92). CHECKSUM is this sequence with 0x0000 loaded (R95, R96). -/
theorem execSeq_crcLoad_crcSteps_crcRead (v : Word) (bytes : List Byte) {s : State} (h : s.busy = none) :
    execSeq (.crcLoad v :: bytes.map .crcStep ++ [.crcRead]) s = .next { s with
      acc := checksumFrom s.table v bytes,
      outcomes := s.outcomes ++
        (List.replicate (bytes.length + 1) (.ok .unit) ++ [.ok (.word (checksumFrom s.table v bytes))]) } := by
  have hload : execSeq [.crcLoad v] s = .next ((s.setAcc v).finish (.ok .unit)) := by
    simp [execSeq, exec, execCrcLoad, h]
  rw [List.cons_append, ← List.singleton_append, execSeq_append hload, execSeq_crcSteps_crcRead bytes rfl]
  simp [State.finish, State.setAcc, List.replicate_succ, h]

theorem execSeq_checksumOps (bytes : List Byte) {s : State} (h : s.busy = none) :
    execSeq (checksumOps bytes) s = .next { s with
      acc := checksum s.table bytes,
      outcomes := s.outcomes ++
        (List.replicate (bytes.length + 1) (.ok .unit) ++ [.ok (.word (checksum s.table bytes))]) } :=
  execSeq_crcLoad_crcSteps_crcRead accInit bytes h

/-- The outcome given last is the one appended last. -/
theorem lastOutcome_of_outcomes {t : State} {os os' : List OpOutcome} {o : OpOutcome}
    (h : t.outcomes = os ++ (os' ++ [o])) : t.lastOutcome = some o := by
  rw [State.lastOutcome, h, ← List.append_assoc, List.getLast?_concat]

/-- Settles O9: `checksum_append` as functions; in operations, the CRC_STEPs of `b` start at checksum(a), which a CRC_LOAD
has put in `ACC` or CHECKSUM `a` has left there. -/
theorem checksumIncremental : Obligations.ChecksumIncremental := by
  refine ⟨checksum_append, fun s a b h => ?loaded, fun s a b h => ?left⟩
  case loaded =>
    rw [checksum_append]
    exact ⟨_, execSeq_crcLoad_crcSteps_crcRead _ b h, lastOutcome_of_outcomes rfl⟩
  case left =>
    rw [checksum_append, List.append_assoc, execSeq_append (execSeq_checksumOps a h)]
    exact ⟨_, execSeq_crcSteps_crcRead b h, lastOutcome_of_outcomes rfl⟩

/-- Settles O10: the value that CHECKSUM answers is `checksum` of `TABLE` and the bytes. -/
theorem checksumDependsOnTableAndBytesOnly : Obligations.ChecksumDependsOnTableAndBytesOnly := by
  intro s₁ s₂ bytes h₁ h₂ htable
  refine ⟨_, _, checksum s₁.table bytes, execSeq_checksumOps bytes h₁, execSeq_checksumOps bytes h₂, ?_, ?_⟩
  · exact lastOutcome_of_outcomes rfl
  · rw [htable]
    exact lastOutcome_of_outcomes rfl

end Sys2Proof.Machine

/-! PROOFS. The frame codec: assembly, the five tests of disassembly, and the two composed (41_frame_codec.md R110, R112,
R113, R115, R116). -/

namespace Sys2Proof.Machine

/-- At an idle state an outcome is all that ending an operation adds. -/
theorem State.finish_of_idle {s : State} (h : s.idle) (o : OpOutcome) : s.finish o = s.answered o := by
  simp [State.finish, State.answered, ← show s.busy = none from h]

/-- R113: FRAME_DEC of an idle engine hands the host `frame_decode` and writes nothing. -/
theorem doFrameDec_idle {s : State} (h : s.idle) (expected : Byte) (buf : List Byte) :
    doFrameDec expected buf s = .next (s.answered (frameDecode expected buf)) := by
  rw [doFrameDec, State.begin_idle h, State.finish_of_idle h]

/-- R112, test 1: there is no length byte or no opcode byte. -/
theorem frameDecode_short (expected : Byte) {buf : List Byte} (h : buf.length < 2) :
    frameDecode expected buf = .fault (.frameError (.tooShort buf.length)) := by
  match buf, h with
  | [], _ => rfl
  | [_], _ => rfl

/-- R112, test 2: the length byte does not count what follows it. -/
theorem frameDecode_length_mismatch {length : Byte} {rest : List Byte} (h : length.toNat ≠ 1 + rest.length)
    (expected opcode : Byte) :
    frameDecode expected (length :: opcode :: rest) = .fault (.frameError (.lengthMismatch length rest.length)) := by
  rw [frameDecode, if_pos h]

/-- A length byte that counts its frame is 2 just when the payload is one byte. -/
theorem eq_errorFrameLength_iff {length : Byte} {payload : List Byte} (hlen : length.toNat = 1 + payload.length) :
    length = errorFrameLength ↔ payload.length = 1 := by
  rw [← BitVec.toNat_inj, hlen, show errorFrameLength.toNat = 1 + 1 from rfl, Nat.add_left_cancel_iff]

/-- R112 read backwards: an `Ok` comes from a well-counted frame of the expected opcode whose payload is not one byte. -/
theorem frameDecode_eq_ok {expected : Byte} {buf payload : List Byte}
    (h : frameDecode expected buf = .ok (.bytes payload)) :
    ∃ length, buf = length :: expected :: payload ∧ length.toNat = 1 + payload.length ∧ payload.length ≠ 1 := by
  match buf with
  | [] | [_] => cases h
  | length :: opcode :: rest =>
    by_cases hlen : length.toNat = 1 + rest.length
    · by_cases hone : rest.length = 1
      · rw [frameDecode, if_neg (not_not_intro hlen), if_pos ((eq_errorFrameLength_iff hlen).2 hone)] at h
        cases h
      · rw [frameDecode_length_ne_two (mt (eq_errorFrameLength_iff hlen).1 hone) hlen] at h
        split at h
        case isTrue hop =>
          cases h
          exact ⟨length, by rw [hop], hlen, hone⟩
        case isFalse => cases h
    · rw [frameDecode_length_mismatch hlen] at h
      cases h

/-- R110: up to 254 bytes of payload the length byte of an encoded frame does not wrap around. -/
theorem toNat_lengthByte {payload : List Byte} (h : payload.length ≤ 254) :
    (BitVec.ofNat 8 (1 + payload.length)).toNat = 1 + payload.length :=
  Nat.mod_eq_of_lt (by omega)

/-- R116: of an encoded frame whose payload is not one byte, only the opcode is still to be compared. -/
theorem frameDecode_frameEncode {payload : List Byte} (h : payload.length ≤ 254) (hone : payload.length ≠ 1)
    (expected opcode : Byte) :
    frameDecode expected (frameEncode opcode payload) =
      if opcode = expected then .ok (.bytes payload) else .fault (.unexpectedOpcode expected opcode) :=
  have hlen := toNat_lengthByte h
  frameDecode_length_ne_two (mt (eq_errorFrameLength_iff hlen).1 hone) hlen expected opcode

/-- Settles O15: one lemma for each test; at length byte 2 the count leaves exactly one payload byte. -/
theorem frameDecodeTestsInOrder : Obligations.FrameDecodeTestsInOrder := by
  refine fun expected => ⟨fun buf => frameDecode_short expected, fun length opcode rest =>
    ⟨fun h => frameDecode_length_mismatch h expected opcode, fun hlen htwo => ?device,
      fun hlen hne hop => ?unexpected, fun hlen hne hop => ?ok⟩⟩
  case device =>
    obtain ⟨code, rfl⟩ := List.length_eq_one_iff.1 ((eq_errorFrameLength_iff hlen).1 htwo)
    subst htwo
    exact ⟨code, rfl, frameDecode_length_two expected opcode code⟩
  case unexpected => rw [frameDecode_length_ne_two hne hlen, if_neg hop]
  case ok => rw [frameDecode_length_ne_two hne hlen, if_pos hop]

/-- Settles O18: the device error is test 3; the payload of an `Ok` is not one byte, and a length byte counts it. -/
theorem lengthTwoIsDeviceError : Obligations.LengthTwoIsDeviceError := by
  refine ⟨fun s expected opcode code h => doFrameDec_idle h expected [0x02, opcode, code],
    fun expected buf payload hok => ?_⟩
  obtain ⟨length, -, hlen, hone⟩ := frameDecode_eq_ok hok
  have hbyte := length.isLt
  omega

/-- Settles O19: past the length byte the round trip turns on the opcode; for one payload byte the length-2 rule wins. -/
theorem frameRoundTrip : Obligations.FrameRoundTrip := by
  refine fun opcode payload h => ⟨fun hone => ?same, fun code hcode expected => ?device,
    fun expected hne hone => ?other⟩
  case same => rw [frameDecode_frameEncode h hone, if_pos rfl]
  case device =>
    subst hcode
    exact frameDecode_length_two expected opcode code
  case other => rw [frameDecode_frameEncode h hone, if_neg hne.symm]

/-- Settles O14: the bytes are the definition of `frame_encode`; the invariant is that its length byte does not wrap. -/
theorem encodedFrameInvariant : Obligations.EncodedFrameInvariant := fun _ _ h =>
  ⟨_, rfl, toNat_lengthByte h, rfl⟩

/-- Settles O16: the request is row 0x4 of the table of operations, and FRAME_DEC is `doFrameDec`. -/
theorem frameDecResult : Obligations.FrameDecResult :=
  ⟨fun _ _ _ => rfl, fun _ expected buf h => doFrameDec_idle h expected buf⟩

end Sys2Proof.Machine

/-! PROOFS. The transport framer: the bytes of an envelope, reception phase by phase, and the two composed
(42_transport_framer.md R130, R132, R142). -/

namespace Sys2Proof.Machine

/-- Settles O20: the bytes are the definition of `env_wrap`; header and trailer add two bytes each. -/
theorem envWrapBytes : Obligations.EnvWrapBytes := by
  refine fun table addr frame => ⟨rfl, ?number⟩
  case number => simp [envWrap, trailer]

/-- R13: a word is put together again from its halves. -/
@[simp] theorem mk16_lo8_hi8 (c : Word) : mk16 (lo8 c) (hi8 c) = c := by
  ext i hi
  by_cases hlow : i < 8
  · simp [mk16, lo8, hi8, hlow, hi]
  · have hhigh : i - 8 < 8 := by omega
    simp [mk16, lo8, hi8, hlow, hhigh, Nat.add_sub_cancel' (Nat.le_of_not_lt hlow), BitVec.getLsbD_eq_getElem hi]

/-- R130: an envelope that the engine sends begins with 0x05 and the address, and has a third byte even for an empty
frame, where it is the first of the trailer. -/
theorem envWrap_eq_header_append (table : Vector Word 256) (addr : Byte) (frame : List Byte) :
    ∃ third, envWrap table addr frame = [msgTypeTx, addr, third] ++ (envWrap table addr frame).drop 3 := by
  cases frame with
  | nil => exact ⟨_, rfl⟩
  | cons length body => exact ⟨length, rfl⟩

/-- R7: of the message types only 0x03 and 0x07 are accepted. -/
theorem acceptsMsgType_eq_false {t : Byte} (ha : t ≠ 0x03) (hb : t ≠ 0x07) : acceptsMsgType t = false := by
  rw [acceptsMsgType, beq_false_of_ne (show t ≠ msgTypeRxA from ha), beq_false_of_ne (show t ≠ msgTypeRxB from hb),
    Bool.or_false]

theorem unwrapValidate_badAddress {s : State} {a : Byte} (h : a ≠ s.moduleAddr) (t length : Byte) :
    unwrapValidate t a length s = s.finishChannel (.fault (.transportError (.badAddress a))) := by
  rw [unwrapValidate, if_pos h]

theorem unwrapValidate_badMsgType {t : Byte} (h : acceptsMsgType t = false) (length : Byte) (s : State) :
    unwrapValidate t s.moduleAddr length s = s.finishChannel (.fault (.transportError (.badMsgType t))) := by
  rw [unwrapValidate, if_neg (not_not_intro rfl), h]
  rfl

/-- At an idle state the end of an operation on the channel adds the outcome and changes `ACC` (R21). -/
theorem State.finishChannel_of_idle {s : State} (h : s.idle) (o : OpOutcome) :
    s.finishChannel o = s.afterChannel (Config.freeAcc s.draws) (s.draws + 1) o := by
  simp [State.finishChannel, State.finish, State.drawAcc, State.afterChannel, show s.busy = none from h]

/-- ENV_UNWRAP of an engine that may use the channel is a reception from phase HEADER (R133). -/
theorem exec_envUnwrap_of_ready {s : State} (h : s.ready) : exec .envUnwrap s = .next (unwrapHeader [] s) := by
  obtain ⟨hidle, hopen⟩ := h
  show doEnvUnwrap [] s = _
  rw [doEnvUnwrap, State.begin_idle hidle, State.onChannel_open hopen, State.deliverBytes, List.map_nil,
    State.deliver, List.append_nil]

section Reception

variable {s : State} {rx rest : List RxItem} {o : OpOutcome} {t length : Byte}

/-- A reception that ends gives ENV_UNWRAP its answer. -/
theorem unwrapAnswers_of_unwrapHeader (hs : s.ready)
    (h : unwrapHeader [] (s.setRx rx) = (s.setRx rest).finishChannel o) : unwrapAnswers s rx o rest :=
  ⟨_, _, by rw [exec_envUnwrap_of_ready (s := s.setRx rx) hs, h,
    State.finishChannel_of_idle (s := s.setRx rest) hs.1]⟩

/-- With a whole header on `RX` the answer is that of phase VALIDATE. -/
theorem unwrapAnswers_of_unwrapValidate (hs : s.ready) {a : Byte}
    (h : unwrapValidate t a length (s.setRx rx) = (s.setRx rest).finishChannel o) :
    unwrapAnswers s (items [t, a, length] ++ rx) o rest :=
  unwrapAnswers_of_unwrapHeader hs ((unwrapHeader_of_header rfl).trans h)

/-- With a good header on `RX` the answer is that of phase BODY. -/
theorem unwrapAnswers_of_unwrapBody (hs : s.ready) (ht : t = 0x03 ∨ t = 0x07)
    (h : unwrapBody t s.moduleAddr length [] (s.setRx rx) = (s.setRx rest).finishChannel o) :
    unwrapAnswers s (items [t, s.moduleAddr, length] ++ rx) o rest :=
  unwrapAnswers_of_unwrapValidate hs ((unwrapValidate_good ht rfl).trans h)

/-- R132, phase HEADER. -/
theorem unwrapAnswers_shortHeader (hs : s.ready) {h : List Byte} (hlen : h.length < 3) (rest : List RxItem) :
    unwrapAnswers s (items h ++ .endOfRead :: rest) (.fault (.transportError (.shortHeader h.length))) rest :=
  unwrapAnswers_of_unwrapHeader hs (unwrapHeader_of_short hlen rfl)

/-- R132, phase VALIDATE: the address is tested before the message type. -/
theorem unwrapAnswers_badAddress (hs : s.ready) {a : Byte} (ha : a ≠ s.moduleAddr) (t length : Byte)
    (rest : List RxItem) :
    unwrapAnswers s (items [t, a, length] ++ rest) (.fault (.transportError (.badAddress a))) rest :=
  unwrapAnswers_of_unwrapValidate hs (unwrapValidate_badAddress (s := s.setRx rest) ha t length)

/-- R132, phase VALIDATE. -/
theorem unwrapAnswers_badMsgType (hs : s.ready) (ht : acceptsMsgType t = false) (length : Byte)
    (rest : List RxItem) :
    unwrapAnswers s (items [t, s.moduleAddr, length] ++ rest) (.fault (.transportError (.badMsgType t))) rest :=
  unwrapAnswers_of_unwrapValidate hs (unwrapValidate_badMsgType ht length (s.setRx rest))

/-- R132, phase BODY. -/
theorem unwrapAnswers_shortBody (hs : s.ready) (ht : t = 0x03 ∨ t = 0x07) {d : List Byte}
    (hd : d.length < length.toNat + 2) (rest : List RxItem) :
    unwrapAnswers s (items ([t, s.moduleAddr, length] ++ d) ++ .endOfRead :: rest)
      (.fault (.transportError (.shortBody d.length (length.toNat + 2)))) rest := by
  rw [items_append, List.append_assoc]
  exact unwrapAnswers_of_unwrapBody hs ht (unwrapBody_of_short hd rfl)

/-- R132, phase CHECK: all of an envelope is taken, whatever its trailer. -/
theorem unwrapAnswers_envelope (hs : s.ready) (ht : t = 0x03 ∨ t = 0x07) {body : List Byte}
    (hbody : body.length = length.toNat) (crcLow crcHigh : Byte) (rest : List RxItem) :
    unwrapAnswers s (items ([t, s.moduleAddr, length] ++ body ++ [crcLow, crcHigh]) ++ rest)
      (if checksum s.table ([t, s.moduleAddr, length] ++ body) ≠ mk16 crcLow crcHigh then
          .fault (.checksumError (checksum s.table ([t, s.moduleAddr, length] ++ body)) (mk16 crcLow crcHigh))
        else .ok (.bytes (length :: body))) rest := by
  have htaken : (body ++ [crcLow, crcHigh]).length = length.toNat + 2 := by simp [hbody]
  rw [List.append_assoc, items_append, List.append_assoc]
  apply unwrapAnswers_of_unwrapBody hs ht
  rw [unwrapBody_of_full htaken rfl, State.setRx_setRx, unwrapCheck_of_layout hbody, ite_not,
    apply_ite (State.finishChannel · _)]
  rfl

end Reception

/-- Settles O25: one lemma for each phase of R132. -/
theorem envUnwrapInFourPhases : Obligations.EnvUnwrapInFourPhases := fun _ rest hs =>
  ⟨fun _ hlen => unwrapAnswers_shortHeader hs hlen rest,
    fun t _ length ha => unwrapAnswers_badAddress hs ha t length rest,
    fun _ length ha hb => unwrapAnswers_badMsgType hs (acceptsMsgType_eq_false ha hb) length rest,
    fun _ _ ht => ⟨fun _ hd => unwrapAnswers_shortBody hs ht hd rest,
      fun _ crcLow crcHigh hbody => unwrapAnswers_envelope hs ht hbody crcLow crcHigh rest⟩⟩

/-- Settles O24: the trailer of a good envelope is read back as the checksum it was written from, so phase CHECK answers
`Ok`; the engine's own envelope has message type 0x05, which phase VALIDATE refuses. -/
theorem envelopeRoundTrip : Obligations.EnvelopeRoundTrip := by
  refine ⟨fun s t length body rest hs ht hbody => ?good, fun s frame rest hs => ?loopBack⟩
  case good =>
    have h := unwrapAnswers_envelope hs ht hbody
      (lo8 (checksum s.table ([t, s.moduleAddr, length] ++ body)))
      (hi8 (checksum s.table ([t, s.moduleAddr, length] ++ body))) rest
    rw [mk16_lo8_hi8, if_neg (not_not_intro rfl)] at h
    exact h
  case loopBack =>
    obtain ⟨third, hheader⟩ := envWrap_eq_header_append s.table s.moduleAddr frame
    have h := unwrapAnswers_badMsgType hs (t := msgTypeTx) (by decide) third
      (items ((envWrap s.table s.moduleAddr frame).drop 3) ++ rest)
    rw [← List.append_assoc, ← items_append, ← hheader] at h
    exact h

end Sys2Proof.Machine

/-! PROOFS. What a step can do, said once for every state and every act of the world outside, and the invariants that
follow from it (10_state.md R31, 20_memory.md R49 and R51, 42_transport_framer.md R131, R132, R140). -/

namespace Sys2Proof.Machine

/-! When an operation in progress goes on, and when the world outside acts. -/

theorem nextEvent_of_events {s : State} {e : Event} {later : List Event} (h : s.events = e :: later) :
    nextEvent s = handleEvent e { s with events := later } := by
  simp [nextEvent, h]

theorem nextEvent_of_nil {s : State} (h : s.events = []) : nextEvent s = .next s := by
  simp [nextEvent, h]

theorem step_idle {s : State} (h : s.busy = none) : step s = nextEvent s := by
  simp [step, advance, h]

theorem step_waiting {s : State} {b : Busy} (hb : s.busy = some b) (h : canProceed b s = false) :
    step s = nextEvent s := by
  simp [step, advance, hb, h]

theorem step_struck {s : State} {b : Busy} (hb : s.busy = some b) (h : s.struck = true) : step s = nextEvent s := by
  simp [step, advance, hb, h]

theorem step_goesOn {s : State} {b : Busy} (hb : s.busy = some b) (hcan : canProceed b s = true)
    (h : s.struck = false) : step s = s.onChannel fun s => .next (proceed b s) := by
  simp [step, advance, hb, hcan, h]

/-- An act that strikes happens at once, whatever the engine does. -/
theorem step_of_strikes {s : State} {e : Event} {later : List Event} (he : s.events = e :: later)
    (h : e.strikes = true) : step s = handleEvent e { s with events := later } := by
  obtain hb | ⟨b, hb⟩ := Option.eq_none_or_eq_some s.busy
  · exact (step_idle hb).trans (nextEvent_of_events he)
  · exact (step_struck hb (by simp [State.struck, he, h])).trans (nextEvent_of_events he)

/-- A step is an act of the world outside, or an operation in progress has gone on with an open channel. -/
theorem step_cases {s t : State} (h : step s = .next t) :
    nextEvent s = .next t ∨ ∃ b, s.busy = some b ∧ s.channelOpen = true ∧ t = proceed b s := by
  obtain hb | ⟨b, hb⟩ := Option.eq_none_or_eq_some s.busy
  · exact .inl (step_idle hb ▸ h)
  · by_cases hgo : canProceed b s = true ∧ s.struck = false
    · obtain ⟨hopen, hnext⟩ := State.onChannel_eq_next (step_goesOn hb hgo.1 hgo.2 ▸ h)
      cases hnext
      exact .inr ⟨b, hb, hopen, rfl⟩
    · obtain hcan | hstruck := not_and_or.mp hgo
      · exact .inl (step_waiting hb (Bool.eq_false_iff.mpr hcan) ▸ h)
      · exact .inl (step_struck hb (Bool.not_eq_false _ ▸ hstruck) ▸ h)

/-- A first part of an envelope that ENV_WRAP builds (R131). -/
def EnvelopePart (s : State) (p : List Byte) : Prop :=
  ∃ frame, frame.length ≤ maxFrame ∧ p <+: envWrap s.table s.moduleAddr frame

theorem envelopePart_nil (s : State) : EnvelopePart s [] := ⟨[], Nat.zero_le _, List.nil_prefix⟩

theorem busySound_of_idle {s : State} (h : s.busy = none) : busySound s := by
  simp [busySound, h]

/-- Everything a step can do to the parameters, to `TX`, to the record of outcomes and to the operation in progress. -/
structure StepEffect (s t : State) : Prop where
  table : t.table = s.table
  moduleAddr : t.moduleAddr = s.moduleAddr
  tx : ∃ p, t.tx = s.tx ++ p ∧ (busySound s → EnvelopePart s p)
  outcomes : s.outcomes <+: t.outcomes
  busy : busySound s → busySound t

namespace StepEffect

variable {s t : State}

/-- Nothing is put on `TX`. -/
theorem of_tx_eq (table : t.table = s.table) (moduleAddr : t.moduleAddr = s.moduleAddr) (tx : t.tx = s.tx)
    (outcomes : s.outcomes <+: t.outcomes) (busy : busySound s → busySound t) : StepEffect s t :=
  ⟨table, moduleAddr, ⟨[], by simpa using tx, fun _ => envelopePart_nil s⟩, outcomes, busy⟩

theorem refl (s : State) : StepEffect s s := of_tx_eq rfl rfl rfl (List.prefix_refl _) id

/-- What the world outside will do next is no part of the effect. -/
theorem of_events {later : List Event} (h : StepEffect { s with events := later } t) : StepEffect s t :=
  ⟨h.table, h.moduleAddr, h.tx, h.outcomes, h.busy⟩

/-- Nor is what arrives on `RX`. -/
theorem of_deliverBytes {bytes : List Byte} (h : StepEffect (s.deliverBytes bytes) t) : StepEffect s t :=
  ⟨h.table, h.moduleAddr, h.tx, h.outcomes, h.busy⟩

/-- Nor is what is removed from it. -/
theorem discardFront (h : StepEffect s t) (count : Nat) : StepEffect s (t.discardFront count) :=
  ⟨h.table, h.moduleAddr, h.tx, h.outcomes, h.busy⟩

theorem applyReset (h : StepEffect s t) : StepEffect s t.applyReset :=
  ⟨h.table, h.moduleAddr, h.tx, h.outcomes, fun _ => busySound_of_idle rfl⟩

end StepEffect

section Effects

variable {s t : State}

theorem Received.stepEffect (h : Received s t) : StepEffect s t := by
  refine .of_tx_eq h.table h.moduleAddr h.tx ?outcomes fun _ => ?busy
  case outcomes =>
    obtain ⟨-, o, ho, -⟩ | ⟨ho, -⟩ := h.ending
    · exact ⟨_, ho.symm⟩
    · exact ⟨[], by simp [ho]⟩
  case busy =>
    obtain ⟨hb, -⟩ | ⟨-, -, -, -, hb⟩ := h.ending
    · exact busySound_of_idle hb
    · exact hb

theorem WentOn.stepEffect (h : WentOn s t) (hbusy : busySound s → busySound t) : StepEffect s t := by
  refine .of_tx_eq h.table h.moduleAddr h.tx ?outcomes hbusy
  obtain ⟨-, o, ho, -⟩ | ⟨ho, -⟩ := h.ending
  · exact ⟨_, ho.symm⟩
  · exact ⟨[], by simp [ho]⟩

theorem Sent.stepEffect {envelope : List Byte} (h : Sent envelope s t)
    (he : busySound s → ∃ frame, frame.length ≤ maxFrame ∧ envelope = envWrap s.table s.moduleAddr frame) :
    StepEffect s t := by
  obtain ⟨hbusy, ⟨room, htx⟩, o, ho, -⟩ | ⟨ho, htx, -, hbusy⟩ := h.ending
  · refine ⟨h.table, h.moduleAddr, ⟨_, htx, fun hs => ?part⟩, ⟨_, ho.symm⟩, fun _ => busySound_of_idle hbusy⟩
    obtain ⟨frame, hlen, rfl⟩ := he hs
    exact ⟨frame, hlen, List.take_prefix _ _⟩
  · refine .of_tx_eq h.table h.moduleAddr htx ⟨[], by simp [ho]⟩ fun hs => ?sending
    simpa only [busySound, hbusy, h.table, h.moduleAddr] using he hs

/-- Going on keeps an operation in a phase that makes sense, and an ENV_WRAP sends the envelope it offered. -/
theorem proceed_stepEffect {b : Busy} (hs : s.busy = some b) : StepEffect s (proceed b s) := by
  cases b with
  | header got => exact (unwrapHeader_received got s).stepEffect
  | body a c l got =>
    refine (unwrapBody_wentOn a c l got s).stepEffect fun hsound => ?_
    simp only [busySound, hs] at hsound
    obtain ⟨hc, ha, hlen⟩ := hsound
    exact (unwrapBody_received hc ha).stepEffect.busy (by simpa only [busySound, hs] using ⟨hc, ha, hlen⟩)
  | sending e => exact (wrapOffer_sent e s).stepEffect fun hsound => by simpa only [busySound, hs] using hsound

theorem State.runFor_stepEffect (n : Nat) (s : State) : StepEffect s (s.runFor n) := by
  obtain h | ⟨b, hs, -, -, -, h⟩ := s.runFor_cases n
  · rw [h]
    exact .refl s
  · rw [h]
    have e := proceed_stepEffect (s := s.setRx (s.rx.take n)) hs
    exact ⟨e.table, e.moduleAddr, e.tx, e.outcomes, e.busy⟩

theorem State.putBefore_stepEffect {envelope : List Byte} (n : Nat)
    (he : busySound s → ∃ frame, frame.length ≤ maxFrame ∧ envelope = envWrap s.table s.moduleAddr frame) :
    StepEffect s (s.putBefore envelope n) := by
  obtain ⟨p, answers, hp, h⟩ := s.putBefore_cases envelope n
  rw [h]
  refine ⟨rfl, rfl, ⟨p, rfl, fun hs => ?_⟩, List.prefix_refl _, id⟩
  obtain ⟨frame, hlen, rfl⟩ := he hs
  exact ⟨frame, hlen, hp⟩

theorem State.takeBefore_stepEffect (b : Busy) (n : Nat) (s : State) : StepEffect s (s.takeBefore b n) :=
  .of_tx_eq rfl rfl rfl (List.prefix_refl _) id

theorem partialEffect_stepEffect (use : ChannelUse) (progress : Nat) (s : State) :
    StepEffect s (partialEffect use progress s) := by
  cases use with
  | untouched => exact .refl s
  | put frame =>
    unfold partialEffect
    dsimp only
    split
    case isTrue => exact .refl s
    case isFalse h => exact State.putBefore_stepEffect progress fun _ => ⟨frame, Nat.not_lt.mp h, rfl⟩
  | take arriving => exact (State.takeBefore_stepEffect _ _ _).of_deliverBytes

theorem State.struckAt_stepEffect (progress : Nat) (s : State) : StepEffect s (s.struckAt progress) := by
  unfold State.struckAt
  split
  case h_1 => exact .refl s
  case h_2 hs => exact State.putBefore_stepEffect progress fun hsound => by simpa only [busySound, hs] using hsound
  case h_3 =>
    split
    · exact State.takeBefore_stepEffect _ _ _
    · exact .refl s

/-- Every instruction, by its use of the channel. -/
theorem exec_stepEffect {i : Instr} (h : exec i s = .next t) : StepEffect s t := by
  obtain ⟨-, heffect⟩ := exec_next h
  unfold Effect at heffect
  split at heffect
  case h_1 =>
    obtain ⟨v, o, rfl, -⟩ := heffect
    exact .of_tx_eq rfl rfl rfl ⟨[o], rfl⟩ fun _ => busySound_of_idle rfl
  case h_2 frame _ =>
    obtain ⟨-, rfl⟩ := heffect
    split
    case isTrue => exact .of_tx_eq rfl rfl rfl ⟨_, rfl⟩ fun _ => busySound_of_idle rfl
    case isFalse hlen => exact (wrapOffer_sent _ s).stepEffect fun _ => ⟨frame, Nat.not_lt.mp hlen, rfl⟩
  case h_3 =>
    obtain ⟨-, rfl⟩ := heffect
    exact (unwrapHeader_received _ _).stepEffect.of_deliverBytes

theorem issue_stepEffect {r : Request} (h : issue r s = .next t) : StepEffect s t := by
  unfold issue at h
  split at h
  case h_1 => exact exec_stepEffect h
  case h_2 =>
    obtain ⟨-, h⟩ := State.begin_eq_next h
    cases h
    exact .of_tx_eq rfl rfl rfl ⟨_, rfl⟩ fun _ => busySound_of_idle rfl
  case h_3 =>
    obtain ⟨-, h⟩ := State.begin_eq_next h
    cases h
  case h_4 =>
    obtain ⟨-, -, rfl⟩ := doEnvUnwrap_next h
    exact (unwrapHeader_received _ _).stepEffect.of_deliverBytes

theorem issueThenReset_stepEffect {r : Request} {progress : Nat} (h : issueThenReset r progress s = .next t) :
    StepEffect s t := by
  unfold issueThenReset at h
  split at h
  · cases h
    exact (partialEffect_stepEffect _ _ _).applyReset
  · cases h
  · cases h

theorem issueThenDiscard_stepEffect {r : Request} {progress count : Nat}
    (h : issueThenDiscard r progress count s = .next t) : StepEffect s t := by
  unfold issueThenDiscard at h
  split at h
  case h_1 arriving _ =>
    obtain ⟨-, h⟩ := State.begin_eq_next h
    obtain ⟨-, h⟩ := State.onChannel_eq_next h
    cases h
    have e := ((s.deliverBytes arriving).waitIn (.header [])).runFor_stepEffect progress
    have hstart : busySound ((s.deliverBytes arriving).waitIn (.header [])) := show 0 < headerBytes by decide
    obtain ⟨p, htx, hp⟩ := e.tx
    exact ⟨e.table, e.moduleAddr, ⟨p, htx, fun _ => hp hstart⟩, e.outcomes, fun _ => e.busy hstart⟩
  case h_2 | h_3 =>
    split at h
    · cases h
      exact (issue_stepEffect ‹_›).discardFront count
    · cases h
    · cases h

theorem handleEvent_stepEffect {e : Event} (h : handleEvent e s = .next t) : StepEffect s t := by
  cases e with
  | issue r => exact issue_stepEffect h
  | resetDuring r progress => exact issueThenReset_stepEffect h
  | discardDuring r progress count => exact issueThenDiscard_stepEffect h
  | reset progress =>
    cases h
    exact (s.struckAt_stepEffect progress).applyReset
  | discard progress count =>
    cases h
    exact (s.runFor_stepEffect progress).discardFront count
  | arrive new | writeAnswer count | openChannel | closeChannel =>
    cases h
    exact .of_tx_eq rfl rfl rfl (List.prefix_refl _) id

theorem nextEvent_stepEffect (h : nextEvent s = .next t) : StepEffect s t := by
  cases he : s.events with
  | nil =>
    rw [nextEvent_of_nil he] at h
    cases h
    exact .refl s
  | cons e later =>
    rw [nextEvent_of_events he] at h
    exact (handleEvent_stepEffect h).of_events

/-- The inversion lemma of `step`. -/
theorem step_stepEffect (h : step s = .next t) : StepEffect s t := by
  obtain h | ⟨b, hb, -, rfl⟩ := step_cases h
  · exact nextEvent_stepEffect h
  · exact proceed_stepEffect hb

end Effects

/-- Settles O46: what a step adds to `TX` is a first part of one more envelope, and an operation in progress stays in a
phase that makes sense. -/
theorem stepKeepsSound : Obligations.StepKeepsSound := by
  intro s t ⟨hbusy, parts, hparts, hall⟩ hstep
  have e := step_stepEffect hstep
  obtain ⟨p, htx, hp⟩ := e.tx
  refine ⟨e.busy hbusy, parts ++ [p], by simp [htx, hparts], ?_⟩
  rw [e.table, e.moduleAddr]
  simpa [or_imp, forall_and] using ⟨hall, hp hbusy⟩

/-- Settles O44. -/
theorem stepKeepsParameters : Obligations.StepKeepsParameters := fun _ _ h =>
  ⟨(step_stepEffect h).table, (step_stepEffect h).moduleAddr⟩

/-- Settles O45. -/
theorem stepOnlyAppends : Obligations.StepOnlyAppends := by
  intro s t h
  have e := step_stepEffect h
  obtain ⟨p, htx, -⟩ := e.tx
  exact ⟨⟨p, htx.symm⟩, e.outcomes⟩

/-- Settles O47: no operation is in progress, and an empty `TX` is no envelope part at all. -/
theorem resetIsSound : Obligations.ResetIsSound := ⟨trivial, [], rfl, by simp⟩

end Sys2Proof.Machine

/-! PROOFS. The requests: what the decoder reads, what the encoder writes, and the rows of the listed opcodes
(30_encoding.md R61 to R63, R68, R70 to R72). -/

namespace Sys2Proof.Machine

/-! The rows of the table of opcodes. -/

theorem mem_frameRows_of_frameRow {opcode : Byte} {row : FrameUse → Instr} (h : frameRow opcode = some row) :
    (opcode, row) ∈ frameRows := by
  obtain ⟨before, after, hrows, -⟩ := List.lookup_eq_some_iff.mp h
  simp [hrows]

/-- R61: a frame row is well-formed when its frame is. -/
theorem wf_of_mem_frameRows {row : Byte × (FrameUse → Instr)} (h : row ∈ frameRows) (u : FrameUse) :
    (row.2 u).wf = u.wf := by
  unfold frameRows at h
  fin_cases h <;> rfl

/-- R70: each row is the frame codec on a frame with the row's opcode. -/
theorem exec_of_mem_frameRows {row : Byte × (FrameUse → Instr)} (h : row ∈ frameRows) (u : FrameUse) (s : State) :
    exec (row.2 u) s = doFrameRow row.1 u s := by
  unfold frameRows at h
  fin_cases h <;> rfl

/-- R63: an envelope row is well-formed when its envelope is. -/
theorem wf_of_envelopeRow {msgType : Byte} {row : Envelope → Instr} (h : envelopeRow msgType = some row)
    (e : Envelope) : (row e).wf = e.wf := by
  unfold envelopeRow at h
  split at h
  · cases h; rfl
  · split at h
    · cases h; rfl
    · split at h
      · cases h; rfl
      · cases h

/-! Decoding what was encoded. -/

/-- R70: the request for a frame row is read as that row, if the length byte of a frame to take apart counts it. -/
theorem decode_encodeFrameUse {opcode : Byte} {row : FrameUse → Instr} (hrow : frameRow opcode = some row)
    {u : FrameUse} (hu : u.wf = true) : decode (encodeFrameUse opcode u) = .ok (row u) := by
  cases u with
  | encode payload => simp [encodeFrameUse, decode, decodeCommand, hrow]
  | decode expected length payload =>
    have hlen : length.toNat = 1 + payload.length := by simpa [FrameUse.wf] using hu
    simp [encodeFrameUse, decode, decodeResponse, frameLayout, hrow, hlen]

/-- R63: the bytes of an envelope of a listed message type are read as that envelope. -/
theorem decode_envelopeLayout {msgType : Byte} {row : Envelope → Instr} (hrow : envelopeRow msgType = some row)
    {e : Envelope} (he : e.wf = true) : decode (.receive (envelopeLayout msgType e)) = .ok (row e) := by
  have hlen : e.body.length = e.length.toNat := by simpa [Envelope.wf] using he
  simp [decode, decodeEnvelope, envelopeLayout, hrow, trailerBytes, ← hlen]

/-- Settles O52: the operations by their rows of the table of opsel, the other rows by one lemma for each format. -/
theorem decodeEncodeAgree : Obligations.DecodeEncodeAgree := by
  intro i hi
  cases i with
  | crcLoad | crcStep | crcRead | frameEnc | frameDec | envWrap | envUnwrap => rfl
  | msgHostToModule u =>
    cases u with
    | wrap frame => rfl
    | receive e => exact decode_envelopeLayout (msgType := 0x05) rfl hi
  | msgModuleToHost03 e => exact decode_envelopeLayout (msgType := 0x03) rfl hi
  | msgModuleToHost07 e => exact decode_envelopeLayout (msgType := 0x07) rfl hi
  | frameCfgRead | frameCfgWrite | frameSevError | frameSevWarning | frameSevInfo | frameErrAck | frameStop
  | frameReference | framePosReached | frameStatus | frameErrDetail | frameTargetA0 | frameTargetA1 | frameTargetA2
  | frameTargetA3 | frameTargetA4 | frameMoveAbs | frameMoveB1 | frameMoveB8 | frameMoveB9 | frameReboot
  | frameUserLevel | frameCommTestE4 | frameCommTestE5 | frameNotifyToggle => exact decode_encodeFrameUse rfl hi

/-! What the decoder reads. -/

/-- R72: the select codes from 0x7 on name no operation. -/
theorem decodeOp_reserved {opsel : BitVec 4} (h : 7 ≤ opsel.toNat) (v : Word) (b : Byte) (seq : List Byte) :
    decodeOp opsel v b seq = .error (.reservedOpsel opsel) := by
  unfold decodeOp
  split
  case h_8 => rfl
  all_goals omega

theorem decodeOp_wf {opsel : BitVec 4} {v : Word} {b : Byte} {seq : List Byte} {i : Instr}
    (h : decodeOp opsel v b seq = .ok i) : i.wf = true := by
  unfold decodeOp at h
  split at h <;> cases h <;> rfl

theorem decodeCommand_wf (opcode : Byte) (payload : List Byte) : (decodeCommand opcode payload).wf = true := by
  unfold decodeCommand
  split
  case h_1 hrow => exact wf_of_mem_frameRows (mem_frameRows_of_frameRow hrow) _
  case h_2 => rfl

theorem decodeResponse_wf (expected : Byte) (buf : List Byte) : (decodeResponse expected buf).wf = true := by
  unfold decodeResponse
  split
  case h_1 length opcode payload =>
    split
    case h_1 hrow =>
      split
      case isTrue hlen =>
        rw [wf_of_mem_frameRows (mem_frameRows_of_frameRow hrow) (.decode expected length payload)]
        simpa [FrameUse.wf] using hlen
      case isFalse => rfl
    case h_2 => rfl
  case h_2 => rfl

theorem decodeEnvelope_wf {bytes : List Byte} {i : Instr} (h : decodeEnvelope bytes = .ok i) : i.wf = true := by
  unfold decodeEnvelope at h
  split at h
  case h_1 =>
    split at h
    case h_1 hrow =>
      split at h
      case isTrue hlen =>
        cases h
        rw [wf_of_envelopeRow hrow]
        simp [Envelope.wf, hlen]
      case isFalse => cases h
    case h_2 => cases h
  case h_2 => cases h

/-- Settles O53: one lemma for each form of a request. -/
theorem decodedIsWellFormed : Obligations.DecodedIsWellFormed := by
  intro r i h
  cases r with
  | op opsel v b seq => exact decodeOp_wf h
  | command opcode payload =>
    cases h
    exact decodeCommand_wf opcode payload
  | response expected buf =>
    cases h
    exact decodeResponse_wf expected buf
  | send msgType frame =>
    simp only [decode] at h
    split at h
    · cases h; rfl
    · cases h
  | receive bytes => exact decodeEnvelope_wf h

/-- Settles O50: the seven operations are read off their rows; every other select code is reserved. -/
theorem opselTable : Obligations.OpselTable := fun v b seq =>
  ⟨rfl, rfl, rfl, rfl, rfl, rfl, rfl, fun _ h => decodeOp_reserved h v b seq⟩

/-- Settles O51. -/
theorem writtenRequestsDecode : Obligations.WrittenRequestsDecode := ⟨rfl, rfl, rfl, rfl, rfl, rfl⟩

/-! Requests that are issued. -/

/-- An engine with no operation in progress to which a request is issued performs it. -/
theorem step_issue {s : State} {r : Request} {later : List Event} (hs : s.idle) (he : s.events = .issue r :: later) :
    step s = issue r { s with events := later } :=
  (step_idle hs).trans (nextEvent_of_events he)

theorem issue_of_decode {r : Request} {i : Instr} (h : decode r = .ok i) (s : State) : issue r s = exec i s := by
  simp [issue, h]

/-- A word of the opcode table that is read as an instruction has a request that decodes to it. -/
theorem decodeTableWord_eq_some {nbits w : Nat} {i : Instr} (h : decodeTableWord nbits w = some i) :
    ∃ r, requestOfTableWord nbits w = some r ∧ decode r = .ok i := by
  unfold decodeTableWord at h
  split at h
  case h_1 r hr =>
    refine ⟨r, hr, ?_⟩
    cases hd : decode r with
    | ok j => simpa [hd, Except.toOption] using h
    | error e => simp [hd, Except.toOption] at h
  case h_2 => cases h

/-- Settles O48: both ways of placing a request end in `issue` of it at an engine with no operation in progress. -/
theorem stepRunsTheDecodedInstruction : Obligations.StepRunsTheDecodedInstruction := by
  refine ⟨fun s r i later hs he hd => ?issued, fun s nbits w i h => ?fetched⟩
  case issued => rw [step_issue hs he, issue_of_decode hd]
  case fetched =>
    obtain ⟨r, hr, hd⟩ := decodeTableWord_eq_some h
    have hplaced : s.withFetchWord nbits w = { s with busy := none, events := .issue r :: s.events } := by
      simp [State.withFetchWord, hr]
    rw [hplaced, step_issue (s := { s with busy := none, events := .issue r :: s.events }) rfl rfl, issue_of_decode hd]

/-- Settles O35: a reserved select code is decoded to the error that `issue` answers with `IllegalOperation`. -/
theorem reservedOpselIsIllegalOperation : Obligations.ReservedOpselIsIllegalOperation := by
  intro s opsel v b seq later hs hopsel he
  have hd : decode (.op opsel v b seq) = .error (.reservedOpsel opsel) := decodeOp_reserved hopsel v b seq
  rw [step_issue hs he, ← State.finish_of_idle (s := { s with events := later }) hs]
  simp only [issue, hd]
  exact State.begin_idle hs

/-! The listed opcodes. -/

/-- R111: FRAME_ENC of an idle engine hands the host the frame, or refuses it, and writes nothing. -/
theorem doFrameEnc_idle {s : State} (h : s.idle) (opcode : Byte) (payload : List Byte) :
    doFrameEnc opcode payload s = .next (s.answered (frameEncOutcome opcode payload)) := by
  rw [doFrameEnc, State.begin_idle h, State.finish_of_idle h]

theorem frameEncOutcome_fits {payload : List Byte} (h : payload.length ≤ 254) (opcode : Byte) :
    frameEncOutcome opcode payload = .ok (.bytes (frameEncode opcode payload)) :=
  if_neg (Nat.not_lt.mpr h)

theorem frameEncOutcome_overflow {payload : List Byte} (h : 254 < payload.length) (opcode : Byte) :
    frameEncOutcome opcode payload = .fault (.lengthOverflow payload.length) :=
  if_pos h

/-- Settles O13. -/
theorem frameEncResult : Obligations.FrameEncResult := by
  refine ⟨fun s opcode payload hs hlen => ?fits, fun s opcode payload hs hlen => ?overflow⟩
  case fits => exact frameEncOutcome_fits hlen opcode ▸ doFrameEnc_idle hs opcode payload
  case overflow => exact frameEncOutcome_overflow hlen opcode ▸ doFrameEnc_idle hs opcode payload

/-- Settles O54: a row that assembles is FRAME_ENC with the row's opcode. -/
theorem listedOpcodesAssemble : Obligations.ListedOpcodesAssemble := by
  intro s payload hs row hrow
  rw [exec_of_mem_frameRows hrow]
  exact ⟨fun h => frameEncResult.1 s row.1 payload hs h, fun h => frameEncResult.2 s row.1 payload hs h⟩

/-- Settles O55: a row that takes apart is FRAME_DEC of the frame with the row's opcode. -/
theorem listedOpcodesTakeApart : Obligations.ListedOpcodesTakeApart := by
  intro s expected length payload hs row hrow
  rw [exec_of_mem_frameRows hrow]
  exact doFrameDec_idle hs expected (length :: row.1 :: payload)

end Sys2Proof.Machine

/-! PROOFS. The checksum engine: the results of its operations, the checksum of a changed byte, and the trailer
(10_state.md section 8, 40_checksum.md R92 to R96 and R101, 42_transport_framer.md R143). -/

namespace Sys2Proof.Machine

/-! The halves of a word (R13). -/

@[simp] theorem lo8_mk16 (lo hi : Byte) : lo8 (mk16 lo hi) = lo := by
  have hhigh : lo8 (hi.setWidth 16 <<< 8) = 0#8 := by
    ext i
    simp [lo8]
  rw [mk16, lo8_xor, lo8_zext, hhigh, BitVec.xor_zero]

@[simp] theorem hi8_mk16 (lo hi : Byte) : hi8 (mk16 lo hi) = hi := by
  have hhigh : hi8 (hi.setWidth 16 <<< 8) = hi := by
    ext i hlt
    simp [hi8, show 8 + i < 16 by omega, show i < 16 by omega, BitVec.getLsbD_eq_getElem hlt]
  rw [mk16, hi8_xor, hi8_zext, hhigh, BitVec.zero_xor]

/-- Settles O21. -/
theorem trailerRoundTrip : Obligations.TrailerRoundTrip :=
  ⟨mk16_lo8_hi8, fun lo hi => ⟨lo8_mk16 lo hi, hi8_mk16 lo hi⟩⟩

theorem word_ext {v w : Word} (hlo : lo8 v = lo8 w) (hhi : hi8 v = hi8 w) : v = w := by
  rw [← mk16_lo8_hi8 v, hlo, hhi, mk16_lo8_hi8]

/-! The operations. -/

theorem exec_crcLoad_idle {s : State} (h : s.idle) (v : Word) :
    exec (.crcLoad v) s = .next ((s.setAcc v).answered (.ok .unit)) := by
  show execCrcLoad v s = _
  rw [execCrcLoad, State.begin_idle h, State.finish_of_idle (s := s.setAcc v) h]

theorem exec_crcStep_idle {s : State} (h : s.idle) (b : Byte) :
    exec (.crcStep b) s = .next ((s.setAcc (crcStep s.table s.acc b)).answered (.ok .unit)) := by
  show execCrcStep b s = _
  rw [execCrcStep, State.begin_idle h, State.finish_of_idle (s := s.setAcc (crcStep s.table s.acc b)) h]

theorem execSeq_singleton (i : Instr) (s : State) : execSeq [i] s = exec i s := by
  unfold execSeq
  cases exec i s <;> rfl

/-- Settles O5: a sequence of one operation is that operation. -/
theorem crcLoadResult : Obligations.CrcLoadResult :=
  ⟨fun _ v h => exec_crcLoad_idle h v, fun s => execSeq_singleton (.crcLoad accInit) s⟩

/-- Settles O6: with `ACC` zero the index is the byte and nothing is carried over; with the low half of `ACC` as the
byte the index is zero. -/
theorem crcStepResult : Obligations.CrcStepResult := by
  refine ⟨fun s b h => exec_crcStep_idle h b, fun s b h hacc => ?zero, fun s h => ?low⟩
  case zero =>
    have hstep : crcStep s.table s.acc b = tableRead s.table b := by
      simp [crcStep, crcIndex, hacc, hi8, lo8]
    exact hstep ▸ exec_crcStep_idle h b
  case low =>
    have hstep : crcStep s.table s.acc (lo8 s.acc) = (hi8 s.acc).setWidth 16 ^^^ tableRead s.table 0x00 := by
      rw [crcStep, crcIndex, BitVec.xor_self]
      rfl
    exact hstep ▸ exec_crcStep_idle h (lo8 s.acc)

/-- Settles O7. -/
theorem crcReadResult : Obligations.CrcReadResult := by
  intro s h
  show execCrcRead s = _
  rw [execCrcRead, State.begin_idle h, State.finish_of_idle h]

/-- Settles O8. -/
theorem checksumPseudoOperation : Obligations.ChecksumPseudoOperation := fun _ bytes h => execSeq_checksumOps bytes h

/-- Settles O1: the steps start at the accumulator that `checksum` starts at. -/
theorem stepsFromResetComputeChecksum : Obligations.StepsFromResetComputeChecksum :=
  ⟨rfl, fun bytes => ⟨_, execSeq_crcSteps bytes rfl, rfl⟩⟩

/-! A change of one byte (R143 b). -/

section OneByte

variable {table : Vector Word 256} (htable : TableHighByteBijective table)
include htable

/-- Entries with the same high byte are the same entry. -/
theorem crcIndex_eq_of_hi8_crcStep_eq {acc acc' : Word} {b b' : Byte}
    (h : hi8 (crcStep table acc b) = hi8 (crcStep table acc' b')) : crcIndex acc b = crcIndex acc' b' := by
  rw [hi8_crcStep, hi8_crcStep] at h
  exact htable.injective h

/-- Different bytes take one accumulator to different ones. -/
theorem crcStep_byte_injective (acc : Word) : Function.Injective (crcStep table acc) := fun _ _ h =>
  (BitVec.xor_right_inj _).mp (crcIndex_eq_of_hi8_crcStep_eq htable (congrArg hi8 h))

/-- One byte takes different accumulators to different ones: the high half of the result gives the index and so the low
half of the accumulator, the low half then gives the high half. -/
theorem crcStep_acc_injective (b : Byte) : Function.Injective (crcStep table · b) := by
  intro acc acc' h
  have hindex : crcIndex acc b = crcIndex acc' b := crcIndex_eq_of_hi8_crcStep_eq htable (congrArg hi8 h)
  have hlow : lo8 (crcStep table acc b) = lo8 (crcStep table acc' b) := congrArg lo8 h
  rw [lo8_crcStep, lo8_crcStep, hindex] at hlow
  exact word_ext ((BitVec.xor_left_inj _).mp hindex) ((BitVec.xor_right_inj _).mp hlow)

theorem checksumFrom_injective (bytes : List Byte) : Function.Injective (checksumFrom table · bytes) := by
  induction bytes with
  | nil => exact fun _ _ h => h
  | cons b bytes ih => exact ih.comp (crcStep_acc_injective htable b)

end OneByte

/-- Settles O29: the step of the changed byte gives different accumulators, and the bytes behind keep them different. -/
theorem oneByteChangeChangesChecksum : Obligations.OneByteChangeChangesChecksum := by
  rintro table htable _ _ ⟨before, x, y, after, hne, rfl, rfl⟩ heq
  rw [checksum_append, checksum_append] at heq
  exact hne (crcStep_byte_injective htable _ (checksumFrom_injective htable after heq))

/-! The candidate table. -/

/-- The byte at which the candidate table has an entry with this high byte. -/
def tableArcIndex (high : Byte) : Byte :=
  BitVec.ofNat 8 ((Config.tableArcEntries.map hi8).idxOf high)

theorem tableArcIndex_hi8 : ∀ i : Byte, tableArcIndex (hi8 (tableRead Config.tableArc i)) = i := by decide +kernel

/-- Settles O12: the index of an entry is read back from its high byte. -/
theorem candidateTableHighByteBijective : Obligations.CandidateTableHighByteBijective :=
  Finite.injective_iff_bijective.mp (Function.LeftInverse.injective tableArcIndex_hi8)

/-- Settles O11. -/
theorem candidateTableCheckValue : Obligations.CandidateTableCheckValue := by
  unfold Obligations.CandidateTableCheckValue
  decide +kernel

end Sys2Proof.Machine

/-! PROOFS. The numbers of fault kinds and sub-causes (60_exceptions.md R161, R162, R164). -/

namespace Sys2Proof.Machine

/-- Settles O34. -/
theorem faultNumbers : Obligations.FaultNumbers := by
  unfold Obligations.FaultNumbers
  and_intros <;> intros <;> rfl

end Sys2Proof.Machine

/-! PROOFS. What an instruction is, by its use of the channel, and what follows for all of them (10_state.md R21 and
R24, 20_memory.md R49, 42_transport_framer.md R141, 60_exceptions.md R160, 70_reset_and_hazards.md R191, R192, R197). -/

namespace Sys2Proof.Machine

/-- An operation that needs no channel: the new `ACC` and the outcome are found from `TABLE` and `ACC`, and nothing else
is written. -/
def PlainForm (k : State → Host.Outcome State Fault Refusal) : Prop :=
  ∃ (newAcc : Vector Word 256 → Word → Word) (outcome : Word → OpOutcome), ∀ s, k s =
    s.begin fun s => .next ((s.setAcc (newAcc s.table s.acc)).finish (outcome s.acc))

/-- An instruction is an operation that needs no channel, or ENV_WRAP of a frame, or ENV_UNWRAP with bytes arriving. -/
def Form (i : Instr) : Prop :=
  match channelUse i with
  | .untouched => PlainForm (exec i)
  | .put frame => exec i = doEnvWrap frame
  | .take arriving => exec i = doEnvUnwrap arriving

theorem doFrameRow_plainForm (opcode : Byte) (u : FrameUse) : PlainForm (doFrameRow opcode u) := by
  cases u with
  | encode payload => exact ⟨fun _ acc => acc, fun _ => frameEncOutcome opcode payload, fun _ => rfl⟩
  | decode expected length payload =>
    exact ⟨fun _ acc => acc, fun _ => frameDecode expected (frameLayout length opcode payload), fun _ => rfl⟩

/-- What `exec` is, once for all instructions. -/
theorem exec_form (i : Instr) : Form i := by
  cases i with
  | crcLoad v => exact ⟨fun _ _ => v, fun _ => .ok .unit, fun _ => rfl⟩
  | crcStep b => exact ⟨fun table acc => crcStep table acc b, fun _ => .ok .unit, fun _ => rfl⟩
  | crcRead => exact ⟨fun _ acc => acc, fun acc => .ok (.word acc), fun _ => rfl⟩
  | frameEnc opcode payload => exact ⟨fun _ acc => acc, fun _ => frameEncOutcome opcode payload, fun _ => rfl⟩
  | frameDec expected buf => exact ⟨fun _ acc => acc, fun _ => frameDecode expected buf, fun _ => rfl⟩
  | envWrap | envUnwrap | msgModuleToHost03 | msgModuleToHost07 => rfl
  | msgHostToModule u => cases u <;> rfl
  | frameCfgRead u | frameCfgWrite u | frameSevError u | frameSevWarning u | frameSevInfo u | frameErrAck u
  | frameStop u | frameReference u | framePosReached u | frameStatus u | frameErrDetail u | frameTargetA0 u
  | frameTargetA1 u | frameTargetA2 u | frameTargetA3 u | frameTargetA4 u | frameMoveAbs u | frameMoveB1 u
  | frameMoveB8 u | frameMoveB9 u | frameReboot u | frameUserLevel u | frameCommTestE4 u | frameCommTestE5 u | frameNotifyToggle u =>
    exact doFrameRow_plainForm _ u

section Forms

variable {i : Instr}

theorem exec_of_untouched (h : channelUse i = .untouched) : PlainForm (exec i) := by
  simpa only [Form, h] using exec_form i

theorem exec_of_put {frame : List Byte} (h : channelUse i = .put frame) : exec i = doEnvWrap frame := by
  simpa only [Form, h] using exec_form i

theorem exec_of_take {arriving : List Byte} (h : channelUse i = .take arriving) : exec i = doEnvUnwrap arriving := by
  simpa only [Form, h] using exec_form i

/-- Every instruction is admitted by `State.begin` first. -/
theorem exec_eq_begin (i : Instr) : ∃ k, exec i = State.begin k := by
  cases hu : channelUse i with
  | untouched =>
    obtain ⟨newAcc, outcome, h⟩ := exec_of_untouched hu
    exact ⟨_, funext h⟩
  | put frame => exact ⟨_, exec_of_put hu⟩
  | take arriving => exact ⟨_, exec_of_take hu⟩

end Forms

/-- Settles O36: every instruction is admitted by the same test. -/
theorem noSecondOperation : Obligations.NoSecondOperation := by
  intro i s b hb
  obtain ⟨k, hk⟩ := exec_eq_begin i
  rw [hk, State.begin_busy hb]

/-- Settles O37: only ENV_WRAP and ENV_UNWRAP have the second admission test. -/
theorem onlyChannelOperationsNeedTheChannel : Obligations.OnlyChannelOperationsNeedTheChannel := by
  refine fun i s hs hclosed => ⟨fun hu => ?plain, fun hu => ?channel⟩
  case plain =>
    obtain ⟨newAcc, outcome, h⟩ := exec_of_untouched hu
    exact ⟨_, (h s).trans (State.begin_idle hs)⟩
  case channel =>
    cases hi : channelUse i with
    | untouched => exact absurd hi hu
    | put frame => rw [exec_of_put hi, doEnvWrap, State.begin_idle hs, State.onChannel_closed hclosed]
    | take arriving => rw [exec_of_take hi, doEnvUnwrap, State.begin_idle hs, State.onChannel_closed hclosed]

/-! The two operations on the channel, when they may use it (R191). -/

theorem doEnvWrap_of_ready {s : State} (h : s.ready) (frame : List Byte) :
    doEnvWrap frame s = .next (if frame.length > maxFrame then s.raise (.lengthOverflow frame.length)
      else wrapOffer (envWrap s.table s.moduleAddr frame) s) := by
  rw [doEnvWrap, State.begin_idle h.1, State.onChannel_open h.2]

theorem doEnvUnwrap_of_ready {s : State} (h : s.ready) (arriving : List Byte) :
    doEnvUnwrap arriving s = .next (unwrapHeader [] (s.deliverBytes arriving)) := by
  rw [doEnvUnwrap, State.begin_idle h.1, State.onChannel_open h.2]

/-! Outcomes are not read back (R24). -/

/-- At `s` the record of outcomes is no input of `f`: `f` appends the same outcomes to any record and does the same
otherwise. -/
def RecordBlind (f : State → State) (s : State) : Prop :=
  ∃ new, (f s).outcomes = s.outcomes ++ new ∧
    ∀ other, f { s with outcomes := other } = { f s with outcomes := other ++ new }

theorem recordBlind_finishChannel (o : OpOutcome) (s : State) : RecordBlind (State.finishChannel o) s :=
  ⟨[o], rfl, fun _ => rfl⟩

theorem recordBlind_unwrapCheck (a b l : Byte) (d : List Byte) (s : State) : RecordBlind (unwrapCheck a b l d) s := by
  unfold unwrapCheck RecordBlind
  dsimp only
  split <;> exact recordBlind_finishChannel _ s

theorem recordBlind_unwrapBody (a b l : Byte) (got : List Byte) (s : State) : RecordBlind (unwrapBody a b l got) s := by
  unfold unwrapBody RecordBlind
  dsimp only
  split
  · exact recordBlind_unwrapCheck _ _ _ _ (s.setRx _)
  · exact recordBlind_finishChannel _ (s.setRx _)
  · exact ⟨[], by simp, fun _ => by simp [State.waitIn, State.setRx]⟩

theorem recordBlind_unwrapValidate (a b l : Byte) (s : State) : RecordBlind (unwrapValidate a b l) s := by
  unfold unwrapValidate RecordBlind
  dsimp only
  split
  · exact recordBlind_finishChannel _ s
  · split
    · exact recordBlind_finishChannel _ s
    · exact recordBlind_unwrapBody _ _ _ _ s

theorem recordBlind_unwrapHeader (got : List Byte) (s : State) : RecordBlind (unwrapHeader got) s := by
  unfold unwrapHeader RecordBlind
  dsimp only
  split
  · exact recordBlind_unwrapValidate _ _ _ (s.setRx _)
  · exact recordBlind_finishChannel _ (s.setRx _)
  · exact ⟨[], by simp, fun _ => by simp [State.waitIn, State.setRx]⟩

theorem recordBlind_wrapOffer (envelope : List Byte) (s : State) : RecordBlind (wrapOffer envelope) s := by
  unfold wrapOffer RecordBlind
  dsimp only
  split
  · exact ⟨[], by simp, fun _ => by simp [State.waitIn]⟩
  · exact ⟨_, rfl, fun _ => rfl⟩

/-- Settles O39: one lemma for each use of the channel. -/
theorem outcomesAreNotReadBack : Obligations.OutcomesAreNotReadBack := by
  intro i s t other h
  cases hi : channelUse i with
  | untouched =>
    obtain ⟨newAcc, outcome, hform⟩ := exec_of_untouched hi
    rw [hform] at h ⊢
    obtain ⟨hs, h⟩ := State.begin_eq_next h
    cases h
    exact ⟨[outcome s.acc], rfl, State.begin_idle hs⟩
  | put frame =>
    rw [exec_of_put hi] at h ⊢
    obtain ⟨hs, hopen, rfl⟩ := doEnvWrap_next h
    have hagain := doEnvWrap_of_ready (s := { s with outcomes := other }) ⟨hs, hopen⟩ frame
    split
    case isTrue hlen => exact ⟨_, rfl, hagain.trans (by rw [if_pos hlen]; rfl)⟩
    case isFalse hlen =>
      obtain ⟨new, hnew, hother⟩ := recordBlind_wrapOffer (envWrap s.table s.moduleAddr frame) s
      exact ⟨new, hnew, hagain.trans (by rw [if_neg hlen, hother])⟩
  | take arriving =>
    rw [exec_of_take hi] at h ⊢
    obtain ⟨hs, hopen, rfl⟩ := doEnvUnwrap_next h
    have hagain := doEnvUnwrap_of_ready (s := { s with outcomes := other }) ⟨hs, hopen⟩ arriving
    obtain ⟨new, hnew, hother⟩ := recordBlind_unwrapHeader [] (s.deliverBytes arriving)
    exact ⟨new, hnew, hagain.trans (congrArg _ (hother other))⟩

/-! What an instruction leaves as it was, and the outcome it gives. -/

/-- Settles O41. -/
theorem streamsOnlyByTheFramer : Obligations.StreamsOnlyByTheFramer := by
  intro i s t h
  obtain ⟨-, heffect⟩ := exec_next h
  unfold Effect at heffect
  refine ⟨fun hu => ?untouched, fun frame hu => ?put, fun bytes hu => ?take⟩ <;> rw [hu] at heffect
  case untouched =>
    obtain ⟨v, o, rfl, -⟩ := heffect
    exact ⟨rfl, rfl, rfl⟩
  case put =>
    have e := exec_stepEffect h
    obtain ⟨p, htx, -⟩ := e.tx
    refine ⟨?_, p, htx.symm⟩
    obtain ⟨-, rfl⟩ := heffect
    split
    · rfl
    · exact (wrapOffer_sent _ s).rx
  case take =>
    obtain ⟨-, rfl⟩ := heffect
    have r := unwrapHeader_received [] (s.deliverBytes bytes)
    exact ⟨r.tx, r.writeAnswers, r.rx⟩

/-- Settles O42: an instruction that leaves the channel alone writes `ACC` only if it is CRC_LOAD or CRC_STEP. -/
theorem whoWritesWhat : Obligations.WhoWritesWhat := by
  intro i s t h
  have e := exec_stepEffect h
  refine ⟨e.table, e.moduleAddr, ?_⟩
  obtain ⟨-, heffect⟩ := exec_next h
  unfold Effect at heffect
  split at heffect
  case h_1 =>
    obtain ⟨v, o, rfl, hv, -⟩ := heffect
    refine ⟨rfl, rfl, fun hacc => ?_⟩
    obtain hv | hload | hstep := hv
    · exact absurd hv hacc
    · exact .inl hload
    · exact .inr (.inl hstep)
  case h_2 frame hu =>
    obtain ⟨-, rfl⟩ := heffect
    split
    · exact ⟨rfl, rfl, fun _ => .inr (.inr (by simp [hu]))⟩
    · have sent := wrapOffer_sent (envWrap s.table s.moduleAddr frame) s
      exact ⟨sent.channelOpen, sent.events, fun _ => .inr (.inr (by simp [hu]))⟩
  case h_3 arriving hu =>
    obtain ⟨-, rfl⟩ := heffect
    have r := unwrapHeader_received [] (s.deliverBytes arriving)
    exact ⟨r.channelOpen, r.events, fun _ => .inr (.inr (by simp [hu]))⟩

/-- An operation has ended with one outcome, or is in progress with none. -/
def OneOutcome (s t : State) : Prop :=
  (t.busy = none ∧ ∃ o, t.outcomes = s.outcomes ++ [o]) ∨ (t.busy ≠ none ∧ t.outcomes = s.outcomes)

section OneOutcome

variable {s t : State}

theorem WentOn.oneOutcome (h : WentOn s t) : OneOutcome s t := by
  obtain ⟨hb, o, ho, -⟩ | ⟨ho, -, b, hb, -⟩ := h.ending
  · exact .inl ⟨hb, o, ho⟩
  · exact .inr ⟨by simp [hb], ho⟩

theorem Sent.oneOutcome {envelope : List Byte} (h : Sent envelope s t) : OneOutcome s t := by
  obtain ⟨hb, -, o, ho, -⟩ | ⟨ho, -, -, hb⟩ := h.ending
  · exact .inl ⟨hb, o, ho⟩
  · exact .inr ⟨by simp [hb], ho⟩

theorem proceed_oneOutcome (b : Busy) (s : State) : OneOutcome s (proceed b s) := by
  cases b with
  | header | body => exact (proceed_wentOn s rfl).oneOutcome
  | sending envelope => exact (wrapOffer_sent envelope s).oneOutcome

theorem exec_oneOutcome {i : Instr} (h : exec i s = .next t) : OneOutcome s t := by
  obtain ⟨-, heffect⟩ := exec_next h
  unfold Effect at heffect
  split at heffect
  case h_1 =>
    obtain ⟨v, o, rfl, -⟩ := heffect
    exact .inl ⟨rfl, o, rfl⟩
  case h_2 =>
    obtain ⟨-, rfl⟩ := heffect
    split
    · exact .inl ⟨rfl, _, rfl⟩
    · exact (wrapOffer_sent _ s).oneOutcome
  case h_3 =>
    obtain ⟨-, rfl⟩ := heffect
    exact proceed_oneOutcome (.header []) (s.deliverBytes _)

/-- Also when another party removes items from `RX` meanwhile. -/
theorem State.runFor_oneOutcome (n : Nat) (h : s.busy ≠ none) : OneOutcome s (s.runFor n) := by
  obtain hs | hend | ⟨ho, b, hb, -⟩ := (s.runFor_ran n).outcomes
  · rw [hs]
    exact .inr ⟨h, rfl⟩
  · exact .inl hend
  · exact .inr ⟨by simp [hb], ho⟩

end OneOutcome

/-- The acts that strike are a reset and a removal of items. -/
theorem State.struck_cases {s : State} (h : s.struck = true) :
    (∃ n later, s.events = .reset n :: later) ∨ ∃ n count later, s.events = .discard n count :: later := by
  unfold State.struck at h
  split at h
  case h_1 => cases h
  case h_2 e later he =>
    cases e with
    | reset n => exact .inl ⟨n, later, he⟩
    | discard n count => exact .inr ⟨n, count, later, he⟩
    | issue | resetDuring | discardDuring | arrive | writeAnswer | openChannel | closeChannel => cases h

/-- Settles O38: what goes on ends with one outcome or waits; of the acts that strike it only a reset ends it
otherwise. -/
theorem exactlyOneOutcome : Obligations.ExactlyOneOutcome := by
  refine ⟨fun i s t h => exec_oneOutcome h, fun s t b hb hcan hreset h => ?_⟩
  cases hstruck : s.struck with
  | false =>
    rw [step_goesOn hb hcan hstruck] at h
    obtain ⟨-, h⟩ := State.onChannel_eq_next h
    cases h
    exact proceed_oneOutcome b s
  | true =>
    obtain ⟨n, later, he⟩ | ⟨n, count, later, he⟩ := State.struck_cases hstruck
    · exact absurd he (hreset n later)
    · rw [step_of_strikes he rfl] at h
      cases h
      exact State.runFor_oneOutcome (s := { s with events := later }) n (by simp [hb])

end Sys2Proof.Machine

/-! PROOFS. Receptions: what they take, what they return, how they wait and go on (20_memory.md R42, R46 and R52,
42_transport_framer.md R133 to R141). -/

namespace Sys2Proof.Machine

theorem exec_envUnwrap_next {s t : State} (h : exec .envUnwrap s = .next t) : s.ready ∧ t = unwrapHeader [] s := by
  obtain ⟨hs, hopen, -⟩ := doEnvUnwrap_next h
  rw [exec_envUnwrap_of_ready ⟨hs, hopen⟩] at h
  cases h
  exact ⟨⟨hs, hopen⟩, rfl⟩

/-! How many items a reception takes (R135). -/

theorem unwrapCheck_rx (a b l : Byte) (d : List Byte) (s : State) : (unwrapCheck a b l d s).rx = s.rx := by
  unfold unwrapCheck
  dsimp only
  split <;> rfl

/-- Phase BODY takes the bytes that are still wanted, or fewer and an `End`. -/
theorem unwrapBody_takes (a b l : Byte) (s : State) :
    ∃ n ≤ l.toNat + 2, (unwrapBody a b l [] s).rx = s.rx.drop n := by
  unfold unwrapBody
  obtain ⟨bs, rest, hn, hrx, h⟩ | ⟨bs, rest, hn, hrx, h⟩ | ⟨bs, hn, hrx, h⟩ :=
    takeBytes_cases (l.toNat + trailerBytes - ([] : List Byte).length) [] s.rx <;> rw [h]
  · exact ⟨bs.length, hn.le, (unwrapCheck_rx ..).trans (drop_of_split hrx)⟩
  · exact ⟨bs.length + 1, hn, drop_of_split_end hrx⟩
  · exact ⟨bs.length, hn.le, by simp [hrx]⟩

/-- Phase VALIDATE takes nothing, and phase BODY may follow. -/
theorem unwrapValidate_takes (a b l : Byte) (s : State) :
    ∃ n ≤ l.toNat + 2, (unwrapValidate a b l s).rx = s.rx.drop n := by
  unfold unwrapValidate
  split
  · exact ⟨0, Nat.zero_le _, rfl⟩
  · split
    · exact ⟨0, Nat.zero_le _, rfl⟩
    · exact unwrapBody_takes a b l s

/-- Settles O43: phase HEADER takes at most three items, and only three bytes let the later phases take more. -/
theorem envUnwrapTakesAtMostOneEnvelope : Obligations.EnvUnwrapTakesAtMostOneEnvelope := by
  intro s t h _
  obtain ⟨-, rfl⟩ := exec_envUnwrap_next h
  obtain ⟨bs, rest, hn, hrx, -⟩ | ⟨bs, rest, hn, hrx, -⟩ | ⟨bs, hn, hrx, -⟩ := takeBytes_cases headerBytes [] s.rx
  · obtain ⟨a, b, l, rfl⟩ := List.length_eq_three.mp hn
    obtain ⟨n, hle, htakes⟩ := unwrapValidate_takes a b l (s.setRx rest)
    refine ⟨3 + n, ?_, .inr ⟨a, b, l, ⟨rest, hrx.symm⟩, by omega⟩⟩
    rw [unwrapHeader_of_header hrx, htakes, hrx, ← List.drop_drop]
    rfl
  · rw [unwrapHeader_of_short hn hrx]
    exact ⟨bs.length + 1, drop_of_split_end hrx, .inl hn⟩
  · rw [unwrapHeader_of_waiting hn hrx]
    exact ⟨bs.length, by simp [hrx], .inl hn.le⟩

/-! What a reception returns (R136). -/

/-- A length byte and as many bytes behind it as it says. -/
def CountsItself (frame : List Byte) : Prop :=
  ∃ length body, frame = length :: body ∧ body.length = length.toNat

section Returns

variable {s : State} {f : List Byte}

theorem unwrapCheck_countsItself {a b l : Byte} {d : List Byte} (hd : l.toNat ≤ d.length)
    (h : (unwrapCheck a b l d s).outcomes = s.outcomes ++ [.ok (.bytes f)]) : CountsItself f := by
  unfold unwrapCheck at h
  dsimp only at h
  split at h
  · simp at h
  · have hf : l :: d.take l.toNat = f := by simpa using h
    exact ⟨l, d.take l.toNat, hf.symm, by simp [hd]⟩

theorem unwrapBody_countsItself {a b l : Byte} {got : List Byte}
    (h : (unwrapBody a b l got s).outcomes = s.outcomes ++ [.ok (.bytes f)]) : CountsItself f := by
  unfold unwrapBody at h
  obtain ⟨bs, rest, hn, -, ht⟩ | ⟨bs, rest, -, -, ht⟩ | ⟨bs, -, -, ht⟩ :=
    takeBytes_cases (l.toNat + trailerBytes - got.length) got s.rx <;> rw [ht] at h
  · have hd : l.toNat ≤ (got ++ bs).length := by
      rw [List.length_append]
      omega
    exact unwrapCheck_countsItself (s := s.setRx rest) hd h
  · simp at h
  · simp at h

theorem unwrapHeader_countsItself {got : List Byte}
    (h : (unwrapHeader got s).outcomes = s.outcomes ++ [.ok (.bytes f)]) : CountsItself f := by
  unfold unwrapHeader at h
  split at h
  · unfold unwrapValidate at h
    split at h
    · simp at h
    · split at h
      · simp at h
      · exact unwrapBody_countsItself (s := s.setRx _) h
  · simp at h
  · simp at h

theorem proceed_countsItself {b : Busy} (hb : receives b = true)
    (h : (proceed b s).outcomes = s.outcomes ++ [.ok (.bytes f)]) : CountsItself f := by
  cases b with
  | header got => exact unwrapHeader_countsItself h
  | body a c l got => exact unwrapBody_countsItself h
  | sending e => cases hb

end Returns

/-- Settles O26: phase CHECK returns the length byte and that many of the bytes behind it; with length byte 0 there is
nothing behind. -/
theorem envUnwrapReturnsFrame : Obligations.EnvUnwrapReturnsFrame := by
  refine ⟨fun s u f h _ hok => ?counts, fun s t rest hs ht => ?zero⟩
  case counts =>
    obtain ⟨-, rfl⟩ := exec_envUnwrap_next h
    exact unwrapHeader_countsItself hok
  case zero => exact envelopeRoundTrip.1 s t 0x00 [] rest hs ht rfl

/-! A reception that waits (R42, R195). -/

/-- Settles O27: the bytes run out in phase HEADER or in phase BODY; with nothing there and no act listed nothing
happens. -/
theorem envUnwrapWaits : Obligations.EnvUnwrapWaits := by
  refine ⟨fun s h hs hlen => ?header, fun s t length d hs ht hlen => ?body, fun s b hb hcan he => ?idle⟩
  case header =>
    rw [exec_envUnwrap_of_ready (s := s.setRx (items h)) hs, unwrapHeader_of_waiting hlen rfl]
    rfl
  case body =>
    have hwait : unwrapValidate t s.moduleAddr length (s.setRx (items d)) =
        (s.setRx []).waitIn (.body t s.moduleAddr length d) :=
      (unwrapValidate_good (s := s.setRx (items d)) ht rfl).trans (unwrapBody_of_waiting hlen rfl)
    rw [exec_envUnwrap_of_ready (s := s.setRx (items ([t, s.moduleAddr, length] ++ d))) hs,
      unwrapHeader_of_header (items_append [t, s.moduleAddr, length] d), State.setRx_setRx, hwait]
  case idle => rw [step_waiting hb hcan, nextEvent_of_nil he]

/-! No reception reads which operation is in progress. -/

theorem unwrapCheck_waitIn (a b l : Byte) (d : List Byte) (s : State) (c : Busy) :
    unwrapCheck a b l d (s.waitIn c) = unwrapCheck a b l d s := by
  unfold unwrapCheck
  dsimp only
  split
  · rw [if_pos ‹_›]; rfl
  · rw [if_neg ‹_›]; rfl

theorem unwrapBody_waitIn (a b l : Byte) (got : List Byte) (s : State) (c : Busy) :
    unwrapBody a b l got (s.waitIn c) = unwrapBody a b l got s := by
  unfold unwrapBody
  rw [State.waitIn_rx]
  split
  · exact unwrapCheck_waitIn _ _ _ _ (s.setRx _) c
  · rfl
  · rfl

theorem unwrapValidate_waitIn (a b l : Byte) (s : State) (c : Busy) :
    unwrapValidate a b l (s.waitIn c) = unwrapValidate a b l s := by
  unfold unwrapValidate
  rw [unwrapBody_waitIn]
  rfl

theorem unwrapHeader_waitIn (got : List Byte) (s : State) (c : Busy) :
    unwrapHeader got (s.waitIn c) = unwrapHeader got s := by
  unfold unwrapHeader
  rw [State.waitIn_rx]
  split
  · exact unwrapValidate_waitIn _ _ _ (s.setRx _) c
  · rfl
  · rfl

/-! A reception that waited and goes on with what arrived is one that had everything from the start (R46). -/

section Resume

variable {s : State} {c : Busy}

theorem unwrapBody_resume {a b l : Byte} {got : List Byte} (h : (unwrapBody a b l got s).busy = some c)
    (later : List RxItem) :
    proceed c ((unwrapBody a b l got s).setRx later) = unwrapBody a b l got (s.setRx (s.rx ++ later)) := by
  obtain ⟨bs, rest, -, -, ht⟩ | ⟨bs, rest, -, -, ht⟩ | ⟨bs, hn, hrx, ht⟩ :=
    takeBytes_cases (l.toNat + trailerBytes - got.length) got s.rx
  · simp [unwrapBody, ht, unwrapCheck_busy] at h
  · simp [unwrapBody, ht] at h
  · have hwait : unwrapBody a b l got s = (s.setRx []).waitIn (.body a b l (got ++ bs)) := by simp only [unwrapBody, ht]
    rw [hwait] at h ⊢
    cases h
    have hcount : l.toNat + trailerBytes - got.length =
        bs.length + (l.toNat + trailerBytes - (got ++ bs).length) := by
      rw [List.length_append]
      omega
    have hall := takeBytes_append (l.toNat + trailerBytes - (got ++ bs).length) got bs later
    rw [← hcount, ← hrx] at hall
    calc unwrapBody a b l (got ++ bs) ((s.setRx later).waitIn _)
      _ = unwrapBody a b l (got ++ bs) (s.setRx later) := unwrapBody_waitIn ..
      _ = unwrapBody a b l got (s.setRx (s.rx ++ later)) := by
        simp only [unwrapBody, State.setRx_rx, hall, State.setRx_setRx]

theorem unwrapValidate_resume {a b l : Byte} (h : (unwrapValidate a b l s).busy = some c) (later : List RxItem) :
    proceed c ((unwrapValidate a b l s).setRx later) = unwrapValidate a b l (s.setRx (s.rx ++ later)) := by
  unfold unwrapValidate at h ⊢
  rw [State.setRx_moduleAddr]
  split_ifs at h ⊢
  · cases h
  · cases h
  · exact unwrapBody_resume h later

theorem unwrapHeader_resume {got : List Byte} (h : (unwrapHeader got s).busy = some c) (later : List RxItem) :
    proceed c ((unwrapHeader got s).setRx later) = unwrapHeader got (s.setRx (s.rx ++ later)) := by
  obtain ⟨bs, rest, hn, hrx, ht⟩ | ⟨bs, rest, -, -, ht⟩ | ⟨bs, hn, hrx, ht⟩ :=
    takeBytes_cases (headerBytes - got.length) got s.rx
  · have hall := takeBytes_full got bs (rest ++ later)
    rw [hn, ← List.append_assoc, ← hrx] at hall
    simp only [unwrapHeader, ht, State.setRx_rx, hall, State.setRx_setRx] at h ⊢
    exact unwrapValidate_resume h later
  · simp [unwrapHeader, ht] at h
  · have hwait : unwrapHeader got s = (s.setRx []).waitIn (.header (got ++ bs)) := by simp only [unwrapHeader, ht]
    rw [hwait] at h ⊢
    cases h
    have hcount : headerBytes - got.length = bs.length + (headerBytes - (got ++ bs).length) := by
      rw [List.length_append]
      omega
    have hall := takeBytes_append (headerBytes - (got ++ bs).length) got bs later
    rw [← hcount, ← hrx] at hall
    calc unwrapHeader (got ++ bs) ((s.setRx later).waitIn _)
      _ = unwrapHeader (got ++ bs) (s.setRx later) := unwrapHeader_waitIn ..
      _ = unwrapHeader got (s.setRx (s.rx ++ later)) := by
        simp only [unwrapHeader, State.setRx_rx, hall, State.setRx_setRx]

theorem proceed_resume {b : Busy} (hb : receives b = true) (h : (proceed b s).busy = some c) (later : List RxItem) :
    proceed c ((proceed b s).setRx later) = proceed b (s.setRx (s.rx ++ later)) := by
  cases b with
  | header got => exact unwrapHeader_resume h later
  | body a d l got => exact unwrapBody_resume h later
  | sending e => cases hb

end Resume

theorem canProceed_of_receives {b : Busy} (h : receives b = true) (s : State) : canProceed b s = !s.rx.isEmpty := by
  cases b with
  | header | body => rfl
  | sending => cases h

/-- A reception in progress with items on `RX` goes on, if the channel is open and no act outside strikes it. -/
theorem step_reception {s : State} {b : Busy} (hs : s.busy = some b) (hb : receives b = true)
    (hopen : s.channelOpen = true) (hrx : s.rx ≠ []) (hstruck : s.struck = false) :
    step s = .next (proceed b s) := by
  have hcan : canProceed b s = true := by simp [canProceed_of_receives hb, hrx]
  rw [step_goesOn hs hcan hstruck, State.onChannel_open hopen]

theorem State.struck_of_events_eq {s t : State} (h : t.events = s.events) : t.struck = s.struck := by
  simp [State.struck, h]

/-- The step of a reception that was left waiting and for which items have arrived. -/
theorem step_resume {s : State} {b : Busy} (hb : receives b = true) (hopen : s.channelOpen = true)
    (hstruck : s.struck = false) (hwaits : (proceed b s).busy ≠ none) {later : List RxItem} (hlater : later ≠ []) :
    step ((proceed b s).setRx later) = .next (proceed b (s.setRx (s.rx ++ later))) := by
  have w := proceed_wentOn s hb
  obtain ⟨hend, -⟩ | ⟨-, -, c, hc, hreceives⟩ := w.ending
  · exact absurd hend hwaits
  · rw [step_reception (s := (proceed b s).setRx later) hc hreceives (w.channelOpen.trans hopen) hlater
      ((State.struck_of_events_eq w.events).trans hstruck), proceed_resume hb hc]

/-- Settles O28: ENV_UNWRAP is a reception from phase HEADER, and a reception from any phase can be cut in pieces. -/
theorem receptionInPieces : Obligations.ReceptionInPieces := by
  refine ⟨fun s t first later hs hstruck hlater h hwaits => ?issued,
    fun s t b first later hs hb hstruck hfirst hlater h hwaits => ?inProgress⟩
  case issued =>
    obtain ⟨-, rfl⟩ := exec_envUnwrap_next h
    rw [exec_envUnwrap_of_ready (s := s.setRx (first ++ later)) hs]
    exact step_resume (s := s.setRx first) (b := .header []) rfl hs.2 hstruck hwaits hlater
  case inProgress =>
    have hcan : canProceed b (s.setRx first) = true := by simp [canProceed_of_receives hb, hfirst]
    rw [step_goesOn (s := s.setRx first) hs hcan hstruck] at h
    obtain ⟨hopen, h⟩ := State.onChannel_eq_next h
    cases h
    rw [step_reception (s := s.setRx (first ++ later)) hs hb hopen (by simp [hfirst]) hstruck]
    exact step_resume (s := s.setRx first) hb hopen hstruck hwaits hlater

end Sys2Proof.Machine

/-! PROOFS. RX_RSP and receptions in a row, and receptions from which another party takes items (20_memory.md R52,
42_transport_framer.md R138, R139, R141). -/

namespace Sys2Proof.Machine

/-! RX_RSP by the outcome of the reception. -/

theorem rxRsp_of_settle {s t u : State} {patience : Nat} (h : exec .envUnwrap s = .next t)
    (hsettle : settle patience t = .next u) (expected : Byte) :
    rxRsp patience expected s = afterOkBytes (.frameDec expected) s.outcomes.length u := by
  simp [rxRsp, h, hsettle]

section AfterOkBytes

variable {s u : State} {k : List Byte → Instr}

theorem afterOkBytes_of_none (h : u.outcomes = s.outcomes) : afterOkBytes k s.outcomes.length u = .next u := by
  simp [afterOkBytes, h]

theorem afterOkBytes_of_fault {f : EngineFault} (h : u.outcomes = s.outcomes ++ [.fault f]) :
    afterOkBytes k s.outcomes.length u = .next u := by
  simp [afterOkBytes, h]

theorem afterOkBytes_of_ok {f : List Byte} (h : u.outcomes = s.outcomes ++ [.ok (.bytes f)]) :
    afterOkBytes k s.outcomes.length u = exec (k f) u := by
  simp [afterOkBytes, h]

end AfterOkBytes

/-- R138: of a frame that counts itself, as a reception returns it, the codec can only miss the opcode byte. -/
theorem frameDecode_frameError {expected : Byte} {f : List Byte} (hf : CountsItself f) {c : FrameCause}
    (h : frameDecode expected f = .fault (.frameError c)) : c = .tooShort 1 ∧ f = [0x00] := by
  obtain ⟨length, body, rfl, hlen⟩ := hf
  cases body with
  | nil =>
    have hzero : length = 0x00 := BitVec.eq_of_toNat_eq hlen.symm
    rw [frameDecode_short expected (buf := [length]) Nat.one_lt_two] at h
    cases h
    exact ⟨rfl, by rw [hzero]⟩
  | cons opcode payload =>
    have hcount : length.toNat = 1 + payload.length := by rw [← hlen, List.length_cons, Nat.add_comm]
    by_cases htwo : length = errorFrameLength
    · obtain ⟨code, rfl⟩ := List.length_eq_one_iff.mp ((eq_errorFrameLength_iff hcount).mp htwo)
      subst htwo
      cases h
    · rw [frameDecode_length_ne_two htwo hcount] at h
      split at h <;> cases h

/-! The wait for the outcome of a reception. -/

/-- A reception in progress is left in progress or was ended by a reset, with no outcome; or it has ended with one, and
if that is an `Ok` its frame counts itself. -/
def Watched (s u : State) : Prop :=
  (u.outcomes = s.outcomes ∧ (u.busy = none ∨ ∃ b, u.busy = some b ∧ receives b = true)) ∨
  (u.busy = none ∧ ∃ o, u.outcomes = s.outcomes ++ [o] ∧ ∀ f, o = .ok (.bytes f) → CountsItself f)

section Watched

variable {s t u : State} {b : Busy}

theorem watched_proceed (hb : receives b = true) : Watched s (proceed b s) := by
  obtain ⟨hend, o, ho, -⟩ | ⟨ho, -, hwaits⟩ := (proceed_wentOn s hb).ending
  · refine .inr ⟨hend, o, ho, ?_⟩
    rintro f rfl
    exact proceed_countsItself hb ho
  · exact .inl ⟨ho, .inr hwaits⟩

theorem watched_runFor (hs : s.busy = some b) (hb : receives b = true) (n : Nat) : Watched s (s.runFor n) := by
  obtain h | ⟨c, -, hc, -, -, h⟩ := s.runFor_cases n
  · rw [h]
    exact .inl ⟨rfl, .inr ⟨b, hs, hb⟩⟩
  · rw [h]
    exact watched_proceed (s := s.setRx (s.rx.take n)) hc

/-- R192: nor has the host's request a step. -/
theorem issue_busy (hs : s.busy = some b) (r : Request) : issue r s = .fault .overlappingOperation := by
  unfold issue
  split
  · exact noSecondOperation _ s b hs
  · exact State.begin_busy hs
  · exact State.begin_busy hs
  · exact State.begin_busy hs

theorem State.struckAt_outcomes (n : Nat) (s : State) : (s.struckAt n).outcomes = s.outcomes := by
  unfold State.struckAt
  split
  · rfl
  · obtain ⟨p, answers, -, h⟩ := s.putBefore_cases _ n
    rw [h]
  · split <;> rfl

theorem watched_handleEvent (hs : s.busy = some b) (hb : receives b = true) {e : Event}
    (h : handleEvent e s = .next t) : Watched s t := by
  cases e with
  | issue r =>
    rw [handleEvent, issue_busy hs] at h
    cases h
  | resetDuring r n =>
    rw [handleEvent, issueThenReset, issue_busy hs] at h
    cases h
  | discardDuring r n count =>
    rw [handleEvent, issueThenDiscard, issue_busy hs] at h
    split at h
    · rw [State.begin_busy hs] at h
      cases h
    · cases h
    · cases h
  | reset n =>
    cases h
    exact .inl ⟨s.struckAt_outcomes n, .inl rfl⟩
  | discard n count =>
    cases h
    exact watched_runFor hs hb n
  | arrive | writeAnswer | openChannel | closeChannel =>
    cases h
    exact .inl ⟨rfl, .inr ⟨b, hs, hb⟩⟩

theorem watched_step (hs : s.busy = some b) (hb : receives b = true) (h : step s = .next t) : Watched s t := by
  obtain h | ⟨c, hc, -, rfl⟩ := step_cases h
  · cases he : s.events with
    | nil =>
      rw [nextEvent_of_nil he] at h
      cases h
      exact .inl ⟨rfl, .inr ⟨b, hs, hb⟩⟩
    | cons e later =>
      rw [nextEvent_of_events he] at h
      exact watched_handleEvent (s := { s with events := later }) hs hb h
  · cases hs.symm.trans hc
    exact watched_proceed hb

theorem watched_settle {patience : Nat} (hw : Watched s t) (h : settle patience t = .next u) : Watched s u := by
  induction patience generalizing t with
  | zero =>
    cases h
    exact hw
  | succ patience ih =>
    by_cases hidle : t.busy = none
    · rw [settle_idle _ hidle] at h
      cases h
      exact hw
    · obtain ⟨ho, hnone | ⟨c, hc, hreceives⟩⟩ | ⟨hnone, -⟩ := hw
      · exact absurd hnone hidle
      · cases hstep : step t with
        | next v =>
          rw [settle_step patience hidle hstep] at h
          have hv : Watched s v := by simpa only [Watched, ho] using watched_step hc hreceives hstep
          exact ih hv h
        | fault f => simp [settle, hc, hstep] at h
        | refused r => simp [settle, hc, hstep] at h
      · exact absurd hnone hidle

end Watched

/-- Settles O32: the wait ends with no outcome, a fault, or a frame that counts itself, which FRAME_DEC then gets. -/
theorem rxRspResult : Obligations.RxRspResult := by
  intro s t u expected patience hexec hsettle
  have hw : Watched s u := by
    refine watched_settle ?_ hsettle
    obtain ⟨-, rfl⟩ := exec_envUnwrap_next hexec
    exact watched_proceed (b := .header []) rfl
  rw [rxRsp_of_settle hexec hsettle]
  refine ⟨afterOkBytes_of_none, fun k => afterOkBytes_of_fault, fun f hok => ?_⟩
  obtain ⟨hnone, -⟩ | ⟨hidle, o, ho, hcounts⟩ := hw
  · simp [hnone] at hok
  · have hf : CountsItself f := hcounts f (by simpa [ho] using hok)
    exact ⟨(afterOkBytes_of_ok hok).trans (doFrameDec_idle hidle expected f), fun c => frameDecode_frameError hf⟩

/-- Settles O40: what an instruction does with the channel decides which outcomes it can give; a reception that ends at
once leaves nothing to wait for, and after a fault nothing is issued. -/
theorem transportFaultsAndDeviceErrorsApart : Obligations.TransportFaultsAndDeviceErrorsApart := by
  refine ⟨fun i s t o h ho => ?outcome, fun s u expected patience k h hfault => ?rxRsp⟩
  case outcome =>
    obtain ⟨-, heffect⟩ := exec_next h
    unfold Effect at heffect
    split at heffect
    case h_1 hu =>
      obtain ⟨v, o', rfl, -, htransport, hchecksum⟩ := heffect
      obtain rfl : o' = o := by simpa using ho
      refine ⟨fun _ => hu, ?_, ?_⟩
      · rintro ⟨c, rfl⟩
        exact absurd rfl (htransport c)
      · rintro ⟨x, y, rfl⟩
        exact absurd rfl (hchecksum x y)
    case h_2 frame hu =>
      have hsent : o = .fault (.lengthOverflow frame.length) ∨ o = .ok .unit ∨ ∃ c, o = .fault (.transportError c) := by
        obtain ⟨-, rfl⟩ := heffect
        split at ho
        · exact .inl (by simpa using ho.symm)
        · obtain ⟨-, -, o', ho', hkind⟩ | ⟨hnone, -⟩ := (wrapOffer_sent (envWrap s.table s.moduleAddr frame) s).ending
          · obtain rfl : o' = o := by simpa [ho'] using ho
            exact .inr hkind
          · simp [hnone] at ho
      refine ⟨?_, fun _ => by simp [hu], ?_⟩
      · rintro ⟨sev, code, op, rfl⟩
        simp at hsent
      · rintro ⟨x, y, rfl⟩
        simp at hsent
    case h_3 arriving hu =>
      have hreceived : ReceptionOutcome o := by
        obtain ⟨-, rfl⟩ := heffect
        obtain ⟨-, o', ho', hkind⟩ | ⟨hnone, -⟩ := (unwrapHeader_received [] (s.deliverBytes arriving)).ending
        · obtain rfl : o' = o := by simpa [ho'] using ho
          exact hkind
        · simp [hnone] at ho
      refine ⟨?_, fun _ => by simp [hu], fun _ => ⟨arriving, hu⟩⟩
      rintro ⟨sev, code, op, rfl⟩
      simp [ReceptionOutcome] at hreceived
  case rxRsp =>
    have hended : u.busy = none := by
      obtain ⟨hidle, -⟩ | ⟨-, hnone⟩ := exec_oneOutcome h
      · exact hidle
      · simp [hnone] at hfault
    rw [rxRsp_of_settle h (settle_idle patience hended)]
    exact afterOkBytes_of_fault hfault

theorem State.deliver_of_rx_nil {s : State} (h : s.rx = []) (new : List RxItem) : s.deliver new = s.setRx new := by
  simp [State.deliver, State.setRx, h]

/-- A waiting reception to which items arrive has them before it, the act being used up. -/
theorem step_arrive {s : State} {new : List RxItem} {later : List Event} (he : s.events = .arrive new :: later)
    (hwaits : (unwrapHeader [] s).busy ≠ none) :
    step (unwrapHeader [] s) = .next ((unwrapHeader [] { s with events := later }).setRx new) := by
  have w : WentOn s (unwrapHeader [] s) := proceed_wentOn (b := .header []) s rfl
  obtain ⟨hidle, -⟩ | ⟨-, hrx, c, hc, hreceives⟩ := w.ending
  · exact absurd hidle hwaits
  · calc step (unwrapHeader [] s)
      _ = nextEvent (unwrapHeader [] s) := step_waiting hc (by simp [canProceed_of_receives hreceives, hrx])
      _ = .next (State.deliver new { unwrapHeader [] s with events := later }) :=
        nextEvent_of_events (w.events.trans he)
      _ = .next (State.setRx new { unwrapHeader [] s with events := later }) :=
        congrArg _ (State.deliver_of_rx_nil (s := { unwrapHeader [] s with events := later }) hrx new)
      _ = .next ((unwrapHeader [] { s with events := later }).setRx new) := by
        rw [unwrapHeader_events [] s later]

/-- Settles O58: the first watched step brings the items, the second is the reception that had them from the start. -/
theorem rxRspAcrossAWait : Obligations.RxRspAcrossAWait := by
  intro s t u expected patience new later hs he hnew hstruck hexec hwaits hwhole hended
  have hu := (exec_envUnwrap_next hwhole).2
  obtain ⟨-, rfl⟩ := exec_envUnwrap_next hexec
  have hwaits' : (unwrapHeader [] { s with events := later }).busy ≠ none := by rwa [unwrapHeader_events]
  have hgoesOn : step ((unwrapHeader [] { s with events := later }).setRx new) = .next u := by
    rw [hu]
    exact step_resume (s := { s with events := later }) (b := .header []) rfl hs.2 hstruck hwaits' hnew
  have hsettle : settle (patience + 2) (unwrapHeader [] s) = .next u := by
    rw [settle_step _ hwaits (step_arrive he hwaits), settle_step _ (show (State.setRx new _).busy ≠ none from hwaits') hgoesOn,
      settle_idle _ hended]
  rw [rxRsp_of_settle hexec hsettle, rxRsp_of_settle hwhole (settle_idle 0 hended)]

/-! Receptions in a row (R139). -/

theorem execSeq_cons {i : Instr} {later : List Instr} {s t : State} (h : exec i s = .next t) :
    execSeq (i :: later) s = execSeq later t := by
  simp [execSeq, h]

/-- Settles O33: by induction on the envelopes; a reception leaves what the next one needs. -/
theorem severalReceptions : Obligations.SeveralReceptions := by
  intro s envelopes rest hs hgood hrx
  induction envelopes generalizing s with
  | nil => exact ⟨s, rfl, by simpa using hrx, rfl, by simp⟩
  | cons e envelopes ih =>
    obtain ⟨⟨htype, hbody⟩, hlater⟩ := List.forall_mem_cons.mp hgood
    rw [List.flatMap_cons, items_append, List.append_assoc] at hrx
    generalize htail : items (envelopes.flatMap _) ++ rest = tail at hrx
    obtain ⟨a, d, hfirst⟩ := envelopeRoundTrip.1 s e.1 e.2.1 e.2.2 tail hs htype hbody
    have hexec := (congrArg (fun rx => exec .envUnwrap (s.setRx rx)) hrx).trans hfirst
    obtain ⟨u, hu, hurx, hutx, huoutcomes⟩ :=
      ih ((s.setRx tail).afterChannel a d (.ok (.bytes (e.2.1 :: e.2.2)))) hs hlater htail.symm
    exact ⟨u, (execSeq_cons hexec).trans hu, hurx, hutx, by rw [huoutcomes]; simp [State.afterChannel]⟩

/-! Items that another party removes inside a reception (R52). -/

section Removal

variable {s : State} {b : Busy}

/-- With no item given a reception goes nowhere. -/
theorem State.runFor_of_take_nil {n : Nat} (hn : s.rx.take n = []) : s.runFor n = s := by
  obtain h | ⟨b, -, hb, -, hcan, -⟩ := s.runFor_cases n
  · exact h
  · simp [canProceed_of_receives hb, hn] at hcan

theorem State.runFor_reception {n : Nat} (hs : s.busy = some b) (hb : receives b = true) (hopen : s.channelOpen = true)
    (hn : s.rx.take n ≠ []) : s.runFor n = (proceed b (s.setRx (s.rx.take n))).deliver (s.rx.drop n) := by
  have hcan : canProceed b (s.setRx (s.rx.take n)) = true := by simpa [canProceed_of_receives hb] using hn
  simp only [State.runFor, hs, hb, hopen, hcan]
  rfl

variable (hs : s.busy = some b) (hb : receives b = true) (hopen : s.channelOpen = true) {n : Nat}
  (hstart : s.rx.take n = [] → proceed b (s.setRx []) = s.setRx [])
  (hwaits : (proceed b (s.setRx (s.rx.take n))).busy ≠ none)
include hs hb hopen hstart hwaits

/-- A reception that the first `n` items do not end waits on what is behind the `count` items removed. -/
theorem State.runFor_discardFront (count : Nat) :
    (s.runFor n).discardFront count = (proceed b (s.setRx (s.rx.take n))).setRx (s.rx.drop (n + count)) := by
  by_cases hn : s.rx.take n = []
  · rw [State.runFor_of_take_nil hn, hn, hstart hn, State.setRx_setRx, State.discardFront]
    obtain rfl | hrx := List.take_eq_nil_iff.mp hn
    · rw [Nat.zero_add]
    · rw [hrx, List.drop_nil, List.drop_nil]
  · obtain ⟨hidle, -⟩ | ⟨-, hrx, -⟩ := (proceed_wentOn (s.setRx (s.rx.take n)) hb).ending
    · exact absurd hidle hwaits
    · rw [State.runFor_reception hs hb hopen hn, State.deliver_of_rx_nil hrx, State.discardFront, State.setRx_rx,
        State.setRx_setRx, List.drop_drop]

/-- What a removal inside a reception leaves, and how the reception goes on from it. -/
theorem State.runFor_discardFront_goesOn (count : Nat) {u : State} (hu : u = (s.runFor n).discardFront count) :
    u.busy = (proceed b (s.setRx (s.rx.take n))).busy ∧ u.outcomes = s.outcomes ∧ u.rx = s.rx.drop (n + count) ∧
      u.events = s.events ∧ (u.rx ≠ [] → u.struck = false →
        step u = .next (proceed b (s.setRx (s.rx.take n ++ s.rx.drop (n + count))))) := by
  rw [State.runFor_discardFront hs hb hopen hstart hwaits count] at hu
  subst hu
  have w := proceed_wentOn (s.setRx (s.rx.take n)) hb
  obtain ⟨hidle, -⟩ | ⟨houtcomes, -⟩ := w.ending
  · exact absurd hidle hwaits
  · exact ⟨rfl, houtcomes, rfl, w.events, fun hrx hstruck => step_resume (s := s.setRx (s.rx.take n)) hb hopen
      ((State.struck_of_events_eq w.events).symm.trans hstruck) hwaits hrx⟩

end Removal

theorem State.deliverBytes_nil (s : State) : s.deliverBytes [] = s := by
  simp [State.deliverBytes, State.deliver]

theorem proceed_events_busy (b : Busy) (s : State) (es : List Event) :
    (proceed b { s with events := es }).busy = (proceed b s).busy := by
  rw [proceed_events]

/-- An ENV_UNWRAP that is struck by a removal is a reception from phase HEADER. -/
theorem issueThenDiscard_envUnwrap {s : State} (h : s.ready) (n count : Nat) :
    issueThenDiscard (encode .envUnwrap) n count s =
      .next (((s.waitIn (.header [])).runFor n).discardFront count) := by
  show State.begin (State.onChannel fun s =>
    .next ((((s.deliverBytes []).waitIn (.header [])).runFor n).discardFront count)) s = _
  rw [State.begin_idle h.1, State.onChannel_open h.2, State.deliverBytes_nil]

/-- Settles O59: the reception in progress, from phase HEADER for an ENV_UNWRAP just issued, has run on the first `n`
items; with `n = 0` it is where it was. -/
theorem removalInsideReception : Obligations.RemovalInsideReception := by
  refine ⟨fun s t n count later hs he hn h hwaits => ?issued,
    fun s t b n count later hs hb he hn h hwaits => ?inProgress⟩
  case issued =>
    obtain ⟨-, rfl⟩ := exec_envUnwrap_next h
    have hstep : step s =
        .next (((State.waitIn (.header []) { s with events := later }).runFor n).discardFront count) := by
      rw [step_idle hs.1, nextEvent_of_events he]
      exact issueThenDiscard_envUnwrap (s := { s with events := later }) hs n count
    have hreception (rx : List RxItem) :
        proceed (.header []) { s with rx := rx, busy := some (.header []), events := later } =
          unwrapHeader [] { s with rx := rx, events := later } :=
      unwrapHeader_waitIn [] { s with rx := rx, events := later } (.header [])
    have hbusy : (unwrapHeader [] { s with rx := s.rx.take n, events := later }).busy =
        (unwrapHeader [] (s.setRx (s.rx.take n))).busy :=
      proceed_events_busy (.header []) (s.setRx (s.rx.take n)) later
    obtain ⟨hu, houtcomes, hrx, hlater, hgoesOn⟩ := State.runFor_discardFront_goesOn
      (s := State.waitIn (.header []) { s with events := later }) (b := .header []) (n := n) rfl rfl hs.2
      (fun _ => (hreception []).trans (unwrapHeader_of_waiting (h := []) (Nat.succ_pos 2) rfl))
      (fun h => hwaits (hbusy.symm.trans ((congrArg State.busy (hreception _)).symm.trans h))) count rfl
    refine ⟨_, hstep, hu.trans ((congrArg State.busy (hreception _)).trans hbusy), houtcomes, hrx, hlater,
      fun hne hstruck => (hgoesOn hne hstruck).trans ?_⟩
    exact (congrArg Host.Outcome.next (hreception _)).trans (exec_envUnwrap_of_ready
      (s := { s with rx := s.rx.take n ++ s.rx.drop (n + count), events := later }) hs).symm
  case inProgress =>
    have hstep : step s = .next ((State.runFor n { s with events := later }).discardFront count) := by
      rw [step_of_strikes he rfl]
      rfl
    by_cases hnil : s.rx.take n = []
    · obtain rfl : n = 0 := by
        obtain h0 | hrx := List.take_eq_nil_iff.mp hnil
        · exact h0
        · simpa [hrx] using hn
      rw [step_waiting (s := { s with rx := s.rx.take 0, events := [] }) hs (by simp [canProceed_of_receives hb]),
        nextEvent_of_nil rfl] at h
      cases h
      rw [State.runFor_of_take_nil (s := { s with events := later }) hnil] at hstep
      exact ⟨_, hstep, rfl, rfl, by simp, rfl, fun _ _ => by simp [State.discardFront, State.setRx]⟩
    · rw [step_goesOn (s := { s with rx := s.rx.take n, events := [] }) hs
        (by simpa [canProceed_of_receives hb] using hnil) rfl] at h
      obtain ⟨hopen, h⟩ := State.onChannel_eq_next h
      cases h
      have hbusy (es : List Event) : (proceed b { s with rx := s.rx.take n, events := es }).busy =
          (proceed b (s.setRx (s.rx.take n))).busy := proceed_events_busy b (s.setRx (s.rx.take n)) es
      obtain ⟨hu, houtcomes, hrx, hlater, hgoesOn⟩ := State.runFor_discardFront_goesOn
        (s := { s with events := later }) (b := b) (n := n) hs hb hopen (fun h => absurd h hnil)
        (fun h => hwaits ((hbusy []).trans ((hbusy later).symm.trans h))) count rfl
      refine ⟨_, hstep, hu.trans ((hbusy later).trans (hbusy []).symm), houtcomes, hrx, hlater,
        fun hne hstruck => (hgoesOn hne hstruck).trans ?_⟩
      exact (step_reception (s := { s with rx := s.rx.take n ++ s.rx.drop (n + count), events := later }) hs hb hopen
        (by simp [hnil]) ((State.struck_of_events_eq hlater).symm.trans hstruck)).symm

end Sys2Proof.Machine

/-! PROOFS. Transmissions, and the rows of the message types (42_transport_framer.md R131, R137, 30_encoding.md R68). -/

namespace Sys2Proof.Machine

/-! The one offer of an envelope, by the transport's answer (R43). -/

section Offer

variable {s : State} {envelope : List Byte} {room : Nat} {later : List Nat}

theorem wrapOffer_of_nil (h : s.writeAnswers = []) : wrapOffer envelope s = s.waitIn (.sending envelope) := by
  simp only [wrapOffer, h]

theorem wrapOffer_of_cons (h : s.writeAnswers = room :: later) :
    wrapOffer envelope s = wrapAnswered envelope room { s with writeAnswers := later } := by
  simp only [wrapOffer, h]

theorem wrapAnswered_whole (hs : s.idle) (h : envelope.length ≤ room) :
    wrapAnswered envelope room s = ({ s with tx := s.tx ++ envelope } : State).afterChannel
      (Config.freeAcc s.draws) (s.draws + 1) (.ok .unit) := by
  rw [wrapAnswered, txCount, Nat.min_eq_right h, if_neg (Nat.lt_irrefl _), State.txPut, List.take_of_length_le h]
  exact State.finishChannel_of_idle (s := { s with tx := s.tx ++ envelope }) hs _

theorem wrapAnswered_short (hs : s.idle) (h : room < envelope.length) :
    wrapAnswered envelope room s = ({ s with tx := s.tx ++ envelope.take room } : State).afterChannel
      (Config.freeAcc s.draws) (s.draws + 1) (.fault (.transportError (.shortWrite room envelope.length))) := by
  rw [wrapAnswered, txCount, Nat.min_eq_left h.le, if_pos h, State.txPut]
  exact State.finishChannel_of_idle (s := { s with tx := s.tx ++ envelope.take room }) hs _

end Offer

section Wrap

variable {s : State} {frame : List Byte}

theorem envWrap_length (table : Vector Word 256) (addr : Byte) (frame : List Byte) :
    (envWrap table addr frame).length = frame.length + 4 :=
  (envWrapBytes table addr frame).2

/-- R131: ENV_WRAP of a frame that is not too long is the offer of its envelope. -/
theorem doEnvWrap_fits (hs : s.ready) (hlen : frame.length ≤ 256) :
    doEnvWrap frame s = .next (wrapOffer (envWrap s.table s.moduleAddr frame) s) := by
  rw [doEnvWrap_of_ready hs, if_neg (show ¬frame.length > maxFrame from Nat.not_lt.mpr hlen)]

theorem doEnvWrap_overflow (hs : s.ready) (hlen : 256 < frame.length) :
    doEnvWrap frame s = .next (s.answered (.fault (.lengthOverflow frame.length))) := by
  rw [doEnvWrap_of_ready hs, if_pos (show frame.length > maxFrame from hlen), State.raise, State.finish_of_idle hs.1]

variable {room : Nat} {later : List Nat}

/-- R131: the transport has room for the whole envelope. -/
theorem doEnvWrap_whole (hs : s.ready) (hanswer : s.writeAnswers = room :: later) (hlen : frame.length ≤ 256)
    (hroom : frame.length + 4 ≤ room) :
    doEnvWrap frame s = .next (({ s with
      tx := s.tx ++ envWrap s.table s.moduleAddr frame, writeAnswers := later } : State).afterChannel
        (Config.freeAcc s.draws) (s.draws + 1) (.ok .unit)) := by
  rw [doEnvWrap_fits hs hlen, wrapOffer_of_cons hanswer,
    wrapAnswered_whole (s := { s with writeAnswers := later }) hs.1 (by rwa [envWrap_length])]

/-- R131: the transport takes less than the whole envelope. -/
theorem doEnvWrap_short (hs : s.ready) (hanswer : s.writeAnswers = room :: later) (hlen : frame.length ≤ 256)
    (hroom : room < frame.length + 4) :
    doEnvWrap frame s = .next (({ s with
      tx := s.tx ++ (envWrap s.table s.moduleAddr frame).take room, writeAnswers := later } : State).afterChannel
        (Config.freeAcc s.draws) (s.draws + 1) (.fault (.transportError (.shortWrite room (frame.length + 4))))) := by
  rw [doEnvWrap_fits hs hlen, wrapOffer_of_cons hanswer,
    wrapAnswered_short (s := { s with writeAnswers := later }) hs.1 (by rwa [envWrap_length]), envWrap_length]

end Wrap

/-- Settles O22. -/
theorem envWrapResult : Obligations.EnvWrapResult :=
  ⟨fun _ _ hs hlen => doEnvWrap_overflow hs hlen,
    fun _ _ _ _ hs hanswer hlen hroom => ⟨_, _, doEnvWrap_whole hs hanswer hlen hroom⟩,
    fun _ _ _ _ hs hanswer hlen hroom => ⟨_, _, doEnvWrap_short hs hanswer hlen hroom⟩⟩

/-- Settles O23: with an answer there, an ENV_WRAP in progress and one just issued make the same offer. -/
theorem envWrapWaitsForAnswer : Obligations.EnvWrapWaitsForAnswer := by
  intro s frame room hs hstruck hnone hlen
  let envelope := envWrap s.table s.moduleAddr frame
  refine ⟨s.waitIn (.sending envelope), ?waits, by simp, rfl, rfl, ?answered⟩
  case waits => exact (doEnvWrap_fits hs hlen).trans (congrArg _ (wrapOffer_of_nil hnone))
  case answered =>
    let t : State := { s with busy := some (.sending envelope), writeAnswers := [room] }
    calc step t
      _ = t.onChannel fun t => .next (wrapOffer envelope t) :=
          step_goesOn (s := t) (b := .sending envelope) rfl rfl hstruck
      _ = .next (wrapOffer envelope t) := State.onChannel_open hs.2
      _ = exec (.envWrap frame) { s with writeAnswers := [room] } :=
          (doEnvWrap_fits (s := { s with writeAnswers := [room] }) hs hlen).symm

/-- Settles O31: FRAME_ENC hands ENV_WRAP a frame of at most 256 bytes, or its fault stands. -/
theorem txCmdResult : Obligations.TxCmdResult := by
  refine ⟨fun s opcode payload room later hs hanswer hlen hroom => ?sent, fun s opcode payload hs hlen => ?overflow⟩
  case sent =>
    have hframe : (frameEncode opcode payload).length = payload.length + 2 := rfl
    have hwrap := doEnvWrap_whole (s := s.answered (.ok (.bytes (frameEncode opcode payload)))) hs hanswer
      (frame := frameEncode opcode payload) (by omega) (by omega)
    refine ⟨Config.freeAcc s.draws, s.draws + 1, ?_⟩
    rw [txCmd, frameEncResult.1 s opcode payload hs.1 hlen]
    refine (afterOkBytes_of_ok (f := frameEncode opcode payload) rfl).trans (hwrap.trans ?_)
    simp [State.afterChannel, State.answered, envWrap, frameEncode, trailer, msgTypeTx]
  case overflow =>
    rw [txCmd, frameEncResult.2 s opcode payload hs hlen]
    exact afterOkBytes_of_fault rfl

/-! The rows of the message types. -/

/-- An envelope that arrives on an empty `RX` is received as one that was there. -/
theorem doReceiveRow_of_unwrapAnswers {s : State} {msgType : Byte} {e : Envelope} {o : OpOutcome} {rest : List RxItem}
    (hs : s.ready) (hrx : s.rx = []) (h : unwrapAnswers s (items (envelopeLayout msgType e)) o rest) :
    ∃ a d, doReceiveRow msgType e s = .next ((s.setRx rest).afterChannel a d o) := by
  obtain ⟨a, d, h⟩ := h
  have harrived : s.deliverBytes (envelopeLayout msgType e) = s.setRx (items (envelopeLayout msgType e)) :=
    State.deliver_of_rx_nil hrx _
  rw [exec_envUnwrap_of_ready (s := s.setRx (items (envelopeLayout msgType e))) hs, ← harrived] at h
  exact ⟨a, d, (doEnvUnwrap_of_ready hs _).trans h⟩

/-- R68: an arriving envelope of a module's message type, with the right address and trailer, is accepted. -/
theorem doReceiveRow_good {s : State} {msgType : Byte} {e : Envelope} (hs : s.ready) (hrx : s.rx = [])
    (haddr : e.address = s.moduleAddr) (hbody : e.body.length = e.length.toNat) (ht : msgType = 0x03 ∨ msgType = 0x07)
    (hcrc : mk16 e.crcLow e.crcHigh = checksum s.table ([msgType, e.address, e.length] ++ e.body)) :
    ∃ a d, doReceiveRow msgType e s = .next (s.afterChannel a d (.ok (.bytes (e.length :: e.body)))) := by
  have h := unwrapAnswers_envelope hs ht hbody e.crcLow e.crcHigh []
  rw [hcrc, haddr, if_neg (not_not_intro rfl), List.append_nil, ← haddr] at h
  have hempty : s.setRx [] = s := by simp [State.setRx, ← hrx]
  have hreceived := doReceiveRow_of_unwrapAnswers hs hrx h
  rwa [hempty] at hreceived

/-- Settles O57. -/
theorem moduleMessageTypes : Obligations.ModuleMessageTypes := fun _ _ hs hrx haddr hbody =>
  ⟨doReceiveRow_good hs hrx haddr hbody (.inl rfl), doReceiveRow_good hs hrx haddr hbody (.inr rfl)⟩

/-- Settles O56: sending is ENV_WRAP; reception refuses the type behind the header. -/
theorem hostMessageType : Obligations.HostMessageType := by
  refine ⟨fun s frame room later hs hanswer hlen hroom => ⟨_, _, doEnvWrap_whole hs hanswer hlen hroom⟩,
    fun s e hs hrx haddr => ?received⟩
  case received =>
    have h := unwrapAnswers_badMsgType hs (t := 0x05) (by decide) e.length (items (e.body ++ [e.crcLow, e.crcHigh]))
    rw [← items_append, ← haddr] at h
    exact doReceiveRow_of_unwrapAnswers hs hrx h

end Sys2Proof.Machine

/-! PROOFS. Reset and the other acts of the world outside (10_state.md section 8, 20_memory.md R52 and R53,
70_reset_and_hazards.md R190). -/

namespace Sys2Proof.Machine

/-! What an operation in progress has done when reset ends it (U12). -/

section Struck

variable {s : State} {b : Busy} {envelope : List Byte}

theorem State.struckAt_idle (hs : s.busy = none) (n : Nat) : s.struckAt n = s := by
  simp only [State.struckAt, hs]

theorem State.struckAt_sending (hs : s.busy = some (.sending envelope)) (n : Nat) :
    s.struckAt n = s.putBefore envelope n := by
  simp only [State.struckAt, hs]

theorem State.struckAt_reception (hs : s.busy = some b) (hb : receives b = true) (n : Nat) :
    s.struckAt n = if s.channelOpen then s.takeBefore b n else s := by
  cases b with
  | header | body => simp only [State.struckAt, hs]
  | sending => cases hb

theorem State.putBefore_of_nil (h : s.writeAnswers = []) (n : Nat) : s.putBefore envelope n = s.txPut envelope n := by
  simp only [State.putBefore, h]

theorem State.putBefore_of_cons {room : Nat} {answers : List Nat} (h : s.writeAnswers = room :: answers) (n : Nat) :
    s.putBefore envelope n = ({ s with writeAnswers := answers } : State).txPut (envelope.take room) n := by
  simp only [State.putBefore, h]

/-- Only the streams and the transport's answers can be other than they were. -/
theorem State.struckAt_cases (n : Nat) (s : State) :
    ∃ rx tx answers, s.struckAt n = { s with rx := rx, tx := tx, writeAnswers := answers } := by
  unfold State.struckAt
  split
  · exact ⟨_, _, _, rfl⟩
  · obtain ⟨p, answers, -, h⟩ := s.putBefore_cases _ n
    exact ⟨_, _, _, h⟩
  · split
    · exact ⟨_, _, _, rfl⟩
    · exact ⟨_, _, _, rfl⟩

theorem State.struckAt_reception_streams (hs : s.busy = some b) (hb : receives b = true) (n : Nat) :
    (s.struckAt n).tx = s.tx ∧ (s.struckAt n).writeAnswers = s.writeAnswers ∧
      (s.channelOpen = false → (s.struckAt n).rx = s.rx) := by
  rw [State.struckAt_reception hs hb]
  split
  case isTrue hopen => exact ⟨rfl, rfl, fun hclosed => absurd hopen (by simp [hclosed])⟩
  case isFalse => exact ⟨rfl, rfl, fun _ => rfl⟩

/-- A reception has made a first part of the takes that its next step would make, if nothing struck it. -/
theorem State.struckAt_reception_rx (hs : s.busy = some b) (hb : receives b = true) (n : Nat) (later : List Event)
    {u : State} (hu : step { s with events := [] } = .next u) :
    (State.struckAt n { s with events := later }).rx = s.rx.drop (min n (s.rx.length - u.rx.length)) := by
  rw [State.struckAt_reception (s := { s with events := later }) hs hb]
  by_cases hrx : s.rx = []
  · split <;> simp [State.takeBefore, hrx]
  · have hcan : canProceed b { s with events := [] } = true := by simp [canProceed_of_receives hb, hrx]
    rw [step_goesOn (s := { s with events := [] }) hs hcan rfl] at hu
    obtain ⟨hopen, hu⟩ := State.onChannel_eq_next hu
    cases hu
    rw [if_pos hopen, State.takeBefore, proceed_events b s later, proceed_events b s []]
    rfl

end Struck

/-- Settles O2: by the operation that reset finds in progress. -/
theorem resetEffect : Obligations.ResetEffect := by
  intro s n later he
  obtain ⟨rx, tx, answers, hfields⟩ := State.struckAt_cases n { s with events := later }
  refine ⟨(State.struckAt n { s with events := later }).applyReset, step_of_strikes he rfl, rfl, rfl, by simp [hfields],
    by simp [hfields], by simp [hfields], by simp [hfields], by simp [hfields],
    fun hs => ?idle, fun b hs hb => ?reception, fun envelope hs => ?sending⟩
  case idle =>
    rw [State.struckAt_idle (s := { s with events := later }) hs]
    exact ⟨rfl, rfl, rfl⟩
  case reception =>
    obtain ⟨htx, hanswers, hclosed⟩ := State.struckAt_reception_streams (s := { s with events := later }) hs hb n
    exact ⟨htx, hanswers, hclosed, fun u => State.struckAt_reception_rx hs hb n later⟩
  case sending =>
    rw [State.struckAt_sending (s := { s with events := later }) hs]
    refine ⟨?_, fun h => ?_, fun room answers h => ?_⟩
    · obtain ⟨p, answers, -, h⟩ := State.putBefore_cases envelope n { s with events := later }
      rw [h]
      rfl
    · rw [State.putBefore_of_nil (s := { s with events := later }) h]
      exact ⟨rfl, h⟩
    · rw [State.putBefore_of_cons (s := { s with events := later }) h]
      exact ⟨rfl, rfl⟩

/-! Reset inside an operation just issued. -/

theorem issueThenReset_of_exec {r : Request} {i : Instr} {s t : State} (hd : decode r = .ok i)
    (h : exec i s = .next t) (n : Nat) :
    issueThenReset r n s = .next (partialEffect (channelUse i) n s).applyReset := by
  simp [issueThenReset, issue_of_decode hd, h, requestUse, hd]

/-- Settles O3: what stands of the operation is `partialEffect` of it. -/
theorem resetDuringOperation : Obligations.ResetDuringOperation := by
  refine ⟨fun s t n later hs he h => ?unwrap, fun s frame n room later answers hs he hanswer hlen => ?wrap⟩
  case unwrap =>
    obtain ⟨-, rfl⟩ := exec_envUnwrap_next h
    rw [step_idle hs.1, nextEvent_of_events he, handleEvent, issueThenReset_of_exec (i := .envUnwrap) rfl h]
    simp [partialEffect, channelUse, State.deliverBytes_nil, State.takeBefore, State.setRx, proceed, State.applyReset,
      accInit, hs.1]
  case wrap =>
    rw [step_idle hs.1, nextEvent_of_events he, handleEvent, issueThenReset_of_exec (i := .envWrap frame) rfl
      (doEnvWrap_fits (s := { s with events := later }) hs hlen)]
    have hput : partialEffect (.put frame) n { s with events := later } =
        State.putBefore (envWrap s.table s.moduleAddr frame) n { s with events := later } :=
      if_neg (Nat.not_lt.mpr hlen)
    rw [channelUse, hput, State.putBefore_of_cons (s := { s with events := later }) hanswer]
    simp [State.txPut, State.applyReset, accInit, hs.1]

/-! The other acts of the world outside. -/

/-- What an operation in progress waits for is not among the first items either. -/
theorem State.runFor_of_waiting {s : State} (h : ∀ b, s.busy = some b → canProceed b s = false) (n : Nat) :
    s.runFor n = s := by
  obtain hsame | ⟨b, hs, hb, -, hcan, -⟩ := s.runFor_cases n
  · exact hsame
  · have hrx : s.rx = [] := by simpa [canProceed_of_receives hb] using h b hs
    simp [canProceed_of_receives hb, hrx] at hcan

/-- Settles O49. -/
theorem outsideActs : Obligations.OutsideActs := by
  intro s e later he hwaits
  have hstep : step s = handleEvent e { s with events := later } := by
    rw [← nextEvent_of_events he]
    obtain hs | ⟨b, hs⟩ := Option.eq_none_or_eq_some s.busy
    · exact step_idle hs
    · exact step_waiting hs (hwaits b hs)
  refine ⟨?_, ?_, fun n count heq => ?discard, ?_, ?_⟩
  case discard =>
    subst heq
    rw [hstep, handleEvent, State.runFor_of_waiting (s := { s with events := later }) hwaits]
    rfl
  all_goals
    intros
    subst_vars
    exact hstep

end Sys2Proof.Machine

/-! PROOFS. A good envelope with exactly one bit changed (42_transport_framer.md R143). -/

namespace Sys2Proof.Machine

/-! One bit. -/

theorem flipBit_ne {k : Nat} (hk : k < 8) (b : Byte) : flipBit b k ≠ b := by
  have hbit : ∀ j < 8, 1#8 <<< j ≠ 0#8 := by decide
  exact fun h => hbit k hk ((BitVec.xor_right_inj b).mp (h.trans BitVec.xor_zero.symm))

/-- Bit 2 is the one in which the two message types of a module differ. -/
theorem flipBit_two_msgType {t : Byte} (ht : t = 0x03 ∨ t = 0x07) : flipBit t 2 = 0x03 ∨ flipBit t 2 = 0x07 := by
  obtain rfl | rfl := ht
  · exact .inr (by decide)
  · exact .inl (by decide)

theorem acceptsMsgType_flipBit {t : Byte} (ht : t = 0x03 ∨ t = 0x07) {k : Nat} (hk : k < 8) (hne : k ≠ 2) :
    acceptsMsgType (flipBit t k) = false := by
  have h03 : ∀ j < 8, j ≠ 2 → acceptsMsgType (flipBit 0x03 j) = false := by decide
  have h07 : ∀ j < 8, j ≠ 2 → acceptsMsgType (flipBit 0x07 j) = false := by decide
  obtain rfl | rfl := ht
  · exact h03 k hk hne
  · exact h07 k hk hne

/-! The bytes of an envelope, cut where a phase ends. -/

theorem items_header_append (header body trailer : List Byte) (rest : List RxItem) :
    items (header ++ body ++ trailer) ++ rest = items header ++ (items (body ++ trailer) ++ rest) := by
  simp

theorem eq_take_append_pair_append_drop {d : List Byte} {n : Nat} (h : n + 1 < d.length) :
    d = d.take n ++ [d.getD n 0, d.getD (n + 1) 0] ++ d.drop (n + 2) := by
  have h₀ : d.getD n 0 = d[n] := by simp [show n < d.length by omega]
  have h₁ : d.getD (n + 1) 0 = d[n + 1] := by simp [h]
  rw [h₀, h₁]
  simp

theorem body_append_trailer_length {length : Byte} {body : List Byte} (h : body.length = length.toNat) (c : Word) :
    (body ++ trailer c).length = length.toNat + 2 := by
  simp [trailer, h]

section Flips

variable {s : State} {t length : Byte} {body : List Byte} {k : Nat} (hs : s.ready) (ht : t = 0x03 ∨ t = 0x07)
  (hbody : body.length = length.toNat)
include hs ht hbody

/-- R143 a: a trailer that is not the checksum. -/
theorem unwrapAnswers_badTrailer {lo hi : Byte}
    (hne : checksum s.table ([t, s.moduleAddr, length] ++ body) ≠ mk16 lo hi) (rest : List RxItem) :
    unwrapAnswers s (items ([t, s.moduleAddr, length] ++ body ++ [lo, hi]) ++ rest)
      (.fault (.checksumError (checksum s.table ([t, s.moduleAddr, length] ++ body)) (mk16 lo hi))) rest := by
  have h := unwrapAnswers_envelope hs ht hbody lo hi rest
  rwa [if_pos hne] at h

/-- R143 b: the trailer of another checksum. -/
theorem unwrapAnswers_trailer (c : Word) (rest : List RxItem) :
    unwrapAnswers s (items ([t, s.moduleAddr, length] ++ body ++ trailer c) ++ rest)
      (if checksum s.table ([t, s.moduleAddr, length] ++ body) = c then .ok (.bytes (length :: body))
        else .fault (.checksumError (checksum s.table ([t, s.moduleAddr, length] ++ body)) c)) rest := by
  have h := unwrapAnswers_envelope hs ht hbody (lo8 c) (hi8 c) rest
  rwa [mk16_lo8_hi8, ite_not] at h

omit hbody

/-- R143 e: the stream ends before a length byte that is too large is met. -/
theorem unwrapAnswers_longerLength {rest : List Byte} (hlen : rest.length < length.toNat + 2) :
    unwrapAnswers s (items ([t, s.moduleAddr, length] ++ rest) ++ [.endOfRead])
      (.fault (.transportError (.shortBody rest.length (length.toNat + 2)))) [] :=
  unwrapAnswers_shortBody hs ht hlen []

/-- R143 f: behind a length byte that is too small two earlier bytes are read as the trailer. -/
theorem unwrapAnswers_shorterLength {d : List Byte} (hlen : length.toNat + 1 < d.length) (rest : List RxItem) :
    unwrapAnswers s (items ([t, s.moduleAddr, length] ++ d) ++ rest)
      (if checksum s.table ([t, s.moduleAddr, length] ++ d.take length.toNat) =
          mk16 (d.getD length.toNat 0) (d.getD (length.toNat + 1) 0) then .ok (.bytes (length :: d.take length.toNat))
        else .fault (.checksumError (checksum s.table ([t, s.moduleAddr, length] ++ d.take length.toNat))
          (mk16 (d.getD length.toNat 0) (d.getD (length.toNat + 1) 0))))
      (items (d.drop (length.toNat + 2)) ++ rest) := by
  have hbody : (d.take length.toNat).length = length.toNat := by
    rw [List.length_take]
    omega
  have h := unwrapAnswers_envelope hs ht hbody (d.getD length.toNat 0) (d.getD (length.toNat + 1) 0)
    (items (d.drop (length.toNat + 2)) ++ rest)
  rwa [ite_not, ← List.append_assoc (items _), ← items_append, List.append_assoc [t, s.moduleAddr, length],
    List.append_assoc [t, s.moduleAddr, length], ← eq_take_append_pair_append_drop hlen] at h

end Flips

/-- A word is not what a trailer with one bit changed is read as. -/
theorem ne_mk16_of_flipBit {c : Word} {lo hi : Byte} {k : Nat} (hk : k < 8)
    (h : (lo = flipBit (lo8 c) k ∧ hi = hi8 c) ∨ (lo = lo8 c ∧ hi = flipBit (hi8 c) k)) : c ≠ mk16 lo hi := by
  intro hc
  obtain ⟨hlo, -⟩ | ⟨-, hhi⟩ := h
  · exact flipBit_ne hk (lo8 c) (by rw [← hlo, hc, lo8_mk16])
  · exact flipBit_ne hk (hi8 c) (by rw [← hhi, hc, hi8_mk16])

/-- Settles O30: by the place of the bit. -/
theorem singleBitFlipOutcomes : Obligations.SingleBitFlipOutcomes := by
  intro s t length body k hs ht hbody hk
  dsimp only
  refine ⟨fun lo hi hflip => ?a, fun t' body' hflip => ⟨?b, fun htable => ?bijective⟩, fun hne => ?c, ?d,
    fun hlarger => ?e, fun hsmaller => ?f⟩
  case a => exact unwrapAnswers_badTrailer hs ht hbody (ne_mk16_of_flipBit hk hflip) _
  case b =>
    obtain ⟨rfl, p, x, q, rfl, rfl⟩ | ⟨rfl, rfl⟩ := hflip
    · exact unwrapAnswers_trailer hs ht (by simpa using hbody) _ _
    · exact unwrapAnswers_trailer hs (flipBit_two_msgType ht) hbody _ _
  case bijective =>
    obtain ⟨rfl, p, x, q, rfl, rfl⟩ | ⟨rfl, rfl⟩ := hflip
    · exact oneByteChangeChangesChecksum _ htable _ _
        ⟨[t', s.moduleAddr, length] ++ p, _, x, q, flipBit_ne hk x, by simp, by simp⟩
    · exact oneByteChangeChangesChecksum _ htable _ _
        ⟨[], _, t, [s.moduleAddr, length] ++ body', flipBit_ne (by decide) t, rfl, rfl⟩
  case c =>
    rw [items_header_append]
    exact unwrapAnswers_badMsgType hs (acceptsMsgType_flipBit ht hk hne) _ _
  case d =>
    rw [items_header_append]
    exact unwrapAnswers_badAddress hs (flipBit_ne hk _) _ _ _
  case e =>
    have hrest := body_append_trailer_length hbody (checksum s.table ([t, s.moduleAddr, length] ++ body))
    rw [List.append_assoc, ← hrest]
    exact unwrapAnswers_longerLength hs ht (by omega)
  case f =>
    have hrest := body_append_trailer_length hbody (checksum s.table ([t, s.moduleAddr, length] ++ body))
    have h := unwrapAnswers_shorterLength hs ht (length := flipBit length k)
      (d := body ++ trailer (checksum s.table ([t, s.moduleAddr, length] ++ body))) (by omega) [.endOfRead]
    rwa [List.take_append_of_le_length (by omega), ← List.append_assoc [t, _, _]] at h

end Sys2Proof.Machine
